-- ==== Sys2Proof/Word.lean ====
section
/-! DEFINITION. The word types of the module's lines and clock, and the type of its sparse tables.
Only what the guide carries as bits is a bit vector: the bytes and two-byte numbers of the lines
(R193), the order tags that wrap from 255 to 0 (R156) and the readings of the 32-bit millisecond
clock (section 1.5). Counts, scores, levels and indexes are plain numbers. -/
namespace Sys2Proof

/-- One byte of the Control Link or of a Shelf Line (R179, R193). -/
abbrev Byte := BitVec 8

/-- A two-byte number of a line, least significant byte first (section 1.5, R193). -/
abbrev Half := BitVec 16

/-- A reading of the module's 32-bit millisecond clock, which wraps after 2^32 ms (section 1.5). -/
abbrev Stamp := BitVec 32

/-- A sparse table: the used places of a numbered table, as (number, record) pairs in rising order
of number, each number once. The Carrier Table (R1), Plan Memory (R70) and the service table (R107)
are held so; `Store.wf` is the canonical form and `Laws/Store.lean` shows that it is kept. -/
abbrev Store (α : Type) := List (Nat × α)

end Sys2Proof
end

