-- ==== Sys2Proof/Syntax.lean ====
section
/-! DEFINITION. The commands of the module: one constructor of `Instr` for each row of
spec/opcode_table.json, in the table's order, with the data that comes with it from outside.

A request of the controller is a frame: its constructor carries the frame's tag byte and its body
as the bytes on the line (R194, Table 13-4), so that every check of R183 can be stated of it. A reply
of a shelf carries the shelf's line, the tag byte and the body bytes (R197). An event of the radio
side carries what the demodulator hands over (R55, R63). The end of a timer carries the place whose
timer it is. -/
namespace Sys2Proof

/-- One character received on a serial line: its byte, and whether its stop bit was good (R179). -/
structure LineChar where
  byte : Byte
  stopOk : Bool
deriving DecidableEq, Repr

/-- What the demodulator measured in one 50 ms block, before the clamping of R55. `versions` are the
announcement versions of the sections seen in the block, in the order seen. -/
structure BlockSample where
  locked : Bool
  level : Nat
  mer : Nat
  errored : Nat
  versions : List (BitVec 5)
deriving DecidableEq, Repr

/-- One service as an announcement section sends it, before the building of R64 and R65. -/
structure SentEntry where
  serviceId : Half
  kind : Byte
  scrambled : Bool
  running : Bool
  name : List Byte
deriving DecidableEq, Repr

/-- One announcement section (section 5.5): the multiplex identity, the version, its own number, the
number of the last section, and its entries in the order sent. -/
structure AnnouncementSection where
  network : Half
  stream : Half
  version : BitVec 5
  number : BitVec 3
  last : BitVec 3
  entries : List SentEntry
deriving DecidableEq, Repr

/-- The commands of the module: one constructor for each row of spec/opcode_table.json. -/
inductive Instr where
  /-- PLAN_PUT (R5) -/
  | planPut (tag : Byte) (body : List Byte)
  /-- PLAN_DISABLE (R8) -/
  | planDisable (tag : Byte) (body : List Byte)
  /-- PLAN_ERASE (R11) -/
  | planErase (tag : Byte) (body : List Byte)
  /-- FEED_SET (R16) -/
  | feedSet (tag : Byte) (body : List Byte)
  /-- FEED_ENABLE (R17) -/
  | feedEnable (tag : Byte) (body : List Byte)
  /-- PARAM_SET (R185) -/
  | paramSet (tag : Byte) (body : List Byte)
  /-- PARAM_GET (R186) -/
  | paramGet (tag : Byte) (body : List Byte)
  /-- LIST_WRITE (R71) -/
  | listWrite (tag : Byte) (body : List Byte)
  /-- LIST_DEFINE (R72) -/
  | listDefine (tag : Byte) (body : List Byte)
  /-- LIST_SEEK (R82) -/
  | listSeek (tag : Byte) (body : List Byte)
  /-- PATH_MODE (R32) -/
  | pathMode (tag : Byte) (body : List Byte)
  /-- PROBE_TUNE (R51) -/
  | probeTune (tag : Byte) (body : List Byte)
  /-- PROBE_MEASURE (R52) -/
  | probeMeasure (tag : Byte) (body : List Byte)
  /-- PROBE_RELEASE (R52) -/
  | probeRelease (tag : Byte) (body : List Byte)
  /-- RECHECK (R86) -/
  | recheck (tag : Byte) (body : List Byte)
  /-- SURVEY_START (R171) -/
  | surveyStart (tag : Byte) (body : List Byte)
  /-- SURVEY_PAUSE (R172) -/
  | surveyPause (tag : Byte) (body : List Byte)
  /-- SURVEY_RESUME (R173) -/
  | surveyResume (tag : Byte) (body : List Byte)
  /-- SURVEY_STOP (R174) -/
  | surveyStop (tag : Byte) (body : List Byte)
  /-- RESTART (R176) -/
  | restart (tag : Byte) (body : List Byte)
  /-- RESTART_SURVEY (R177): the carrying out of a RESTART with scope SURVEY -/
  | restartSurvey
  /-- RESTART_ALL (R178): the carrying out of a RESTART with scope ALL -/
  | restartAll
  /-- ALIAS_BIND (R122) -/
  | aliasBind (tag : Byte) (body : List Byte)
  /-- ALIAS_UNBIND (R125) -/
  | aliasUnbind (tag : Byte) (body : List Byte)
  /-- SERVICE_DROP (R126) -/
  | serviceDrop (tag : Byte) (body : List Byte)
  /-- SLOT_SET (R147) -/
  | slotSet (tag : Byte) (body : List Byte)
  /-- SLOT_CLEAR (R148) -/
  | slotClear (tag : Byte) (body : List Byte)
  /-- SLOT_PIN (R149) -/
  | slotPin (tag : Byte) (body : List Byte)
  /-- SLOT_UNPIN (R150) -/
  | slotUnpin (tag : Byte) (body : List Byte)
  /-- SLOT_RESUME (R151) -/
  | slotResume (tag : Byte) (body : List Byte)
  /-- READ_CARRIERS (R184) -/
  | readCarriers (tag : Byte) (body : List Byte)
  /-- READ_FEEDS (R184) -/
  | readFeeds (tag : Byte) (body : List Byte)
  /-- READ_PATHS (R184) -/
  | readPaths (tag : Byte) (body : List Byte)
  /-- READ_LISTS (R184) -/
  | readLists (tag : Byte) (body : List Byte)
  /-- READ_SERVICES (R127) -/
  | readServices (tag : Byte) (body : List Byte)
  /-- READ_CANDIDATES (R127) -/
  | readCandidates (tag : Byte) (body : List Byte)
  /-- READ_SLOTS (R184) -/
  | readSlots (tag : Byte) (body : List Byte)
  /-- READ_STATUS (R184) -/
  | readStatus (tag : Byte) (body : List Byte)
  /-- NOTICE_FETCH (R189) -/
  | noticeFetch (tag : Byte) (body : List Byte)
  /-- NOTICE_MASK (R190) -/
  | noticeMask (tag : Byte) (body : List Byte)
  /-- UNKNOWN_KIND (R182): a request frame with the kind byte `kind` -/
  | unknownKind (kind : Byte) (tag : Byte) (body : List Byte)
  /-- FRAME_ERROR (R181): a run of characters on CL-RX, in which a frame is discarded -/
  | frameError (chars : List LineChar)
  /-- FRAME_GAP_TIMEOUT (R179) -/
  | frameGapTimeout
  /-- REPLY_SENT (R182): the last byte of the reply at the head of the sequence leaves the line -/
  | replySent
  /-- RESET (R178) -/
  | reset
  /-- POWER_ON (R178) -/
  | powerOn
  /-- ACCEPT (R159) -/
  | accept (shelf : Fin 4) (tag : Byte)
  /-- DONE (R160) -/
  | done (shelf : Fin 4) (tag : Byte) (output : Byte)
  /-- REJECT (R161) -/
  | reject (shelf : Fin 4) (tag : Byte) (output : Byte) (reason : Byte)
  /-- LOSS (R167) -/
  | loss (shelf : Fin 4) (output : Byte)
  /-- READY (R165) -/
  | ready (shelf : Fin 4)
  /-- SHELF_FRAME_DISCARD (R154): a run of characters on a Shelf Line, in which a frame is discarded -/
  | shelfFrameDiscard (shelf : Fin 4) (chars : List LineChar)
  /-- ORDER_SENT (R158) -/
  | orderSent (shelf : Fin 4)
  /-- ACCEPT_TIMER_END (R162) -/
  | acceptTimerEnd (shelf : Fin 4)
  /-- DONE_TIMER_END (R162) -/
  | doneTimerEnd (shelf : Fin 4)
  /-- OVERCURRENT_EVENT (R25) -/
  | overcurrentEvent (feed : Fin 6)
  /-- SETTING_SETTLE_END (R20) -/
  | settingSettleEnd (feed : Fin 6)
  /-- RETRY_DELAY_END (R26) -/
  | retryDelayEnd (feed : Fin 6)
  /-- RETRY_SETTLE_END (R26) -/
  | retrySettleEnd (feed : Fin 6)
  /-- FAULT_COUNT_CLEAR (R28) -/
  | faultCountClear (feed : Fin 6)
  /-- TUNE_START (R36) -/
  | tuneStart (path : Fin 8)
  /-- SETTLE_END (R37) -/
  | settleEnd (path : Fin 8)
  /-- ACQUISITION (R37) -/
  | acquisition (path : Fin 8)
  /-- LOCK_TIMEOUT (R38) -/
  | lockTimeout (path : Fin 8)
  /-- BLOCK_END (R54) -/
  | blockEnd (path : Fin 8) (sample : BlockSample)
  /-- ANNOUNCEMENT_SECTION (R63) -/
  | announcementSection (path : Fin 8) (sec : AnnouncementSection)
  /-- CONTENT_TIMEOUT (R66) -/
  | contentTimeout (path : Fin 8)
  /-- EARLIEST_DETACH (R47) -/
  | earliestDetach (path : Fin 8)
  /-- RECOVERY_END (R48) -/
  | recoveryEnd (path : Fin 8)
  /-- SCORED_RESULT (R97): the Score Unit takes the path's oldest result handed to it -/
  | scoredResult (path : Fin 8)
  /-- NO_LOCK_MISS (R98): the Score Unit takes the path's oldest result handed to it -/
  | noLockMiss (path : Fin 8)
  /-- LEVEL_RESULT (R99): the Score Unit takes the path's oldest result handed to it -/
  | levelResult (path : Fin 8)
  /-- CONTENT_RESULT (R116): the Service Registry takes the path's oldest result handed to it -/
  | contentResult (path : Fin 8)
  /-- STALE_TIMER_END (R101) -/
  | staleTimerEnd (carrier : Byte)
  /-- TICK_BOUNDARY (R80) -/
  | tickBoundary
  /-- REST_END (R79) -/
  | restEnd (list : Fin 8)
  /-- HOLD_DOWN_END (R140) -/
  | holdDownEnd (slot : Fin 64)
  /-- BAR_END (R140) -/
  | barEnd (slot : Fin 64)
deriving DecidableEq, Repr

end Sys2Proof
end

