-- ==== Sys2Proof/Decode.lean ====
section
/-! DEFINITION. The command that a word of the opcode table spells. The table of this module gives no row any
bits: a command is a frame, a timer's end or an event, never a word, so no word spells one. Requests reach the
module as bytes on a line, and are told apart there by their kind byte (`Machine.handlerOf`). -/
namespace Sys2Proof

def decodeTableWord (_nbits _w : Nat) : Option Instr := none

end Sys2Proof
end

