-- ==== Sys2Proof/Config.lean ====
section
/-! DEFINITION. The fixed figures of the module, and the values the guide leaves open. -/
namespace Sys2Proof.Config

/-- Largest body of a Control Link or Shelf Line frame (R179, Table 13-1). -/
def maxBody : Nat := 1024
/-- Longest gap, in ms, between two bytes of one frame (R154, R179). -/
def byteGap : Nat := 20
/-- Requests the Control Link holds outstanding (R182). -/
def maxOutstanding : Nat := 4
/-- Places of the notice queue, and how many of them routine notices may take (R188). -/
def noticePlaces : Nat := 32
def routinePlaces : Nat := 28
/-- Places of the Recheck Queue (R83). -/
def recheckPlaces : Nat := 24
/-- Entries of Plan Memory (R70). -/
def planEntries : Nat := 512
/-- Taps of a feed (R18). -/
def taps : Nat := 4
/-- Length of a measurement block in ms (R54). -/
def blockMs : Nat := 50
/-- Retry delay after a supply fault, and the time ON that clears the fault count (R25, R28). -/
def retryMs : Nat := 1000
def clearMs : Nat := 60000
/-- Accept timer and done timer of a shelf order (R158, R159). -/
def acceptMs : Nat := 250
def doneMs : Nat := 4000
/-- Timeouts in a row that make a shelf OFFLINE (R162). -/
def offlineTimeouts : Nat := 3
/-- Places of the service table, the table of bound pairs and the candidate pool, and the candidates
of one service (R107, R108, R109). -/
def servicePlaces : Nat := 384
def pairPlaces : Nat := 512
def poolPlaces : Nat := 1024
def candidatePlaces : Nat := 6
/-- Entries kept of one announcement (R64), and characters kept of a name (R65). -/
def announced : Nat := 32
def nameLength : Nat := 20
/-- First automatic service key; the automatic range holds `servicePlaces` keys (R107). -/
def firstAutoKey : Nat := 0x8000

/-- FREE VALUE. The byte the module sends where the guide states no value for it (assumption log 4):
the field number of an OUT_OF_RANGE reply to PARAM_SET when the number of the failing field does not
fit the one byte Table 13-5 gives it. It has no body: nothing can be proved of its value. -/
opaque freeByte : Nat → Byte

/-- FREE VALUE. The two-byte number the module sends where the guide states no value for it
(assumption log 3): the Plan Memory index of an OUT_OF_RANGE reply to LIST_WRITE when field 1 or 2
failed, so that no entry failed. It has no body: nothing can be proved of its value. -/
opaque freeHalf : Nat → Half

/-- FREE VALUE. The number that places the position of a DONE list, which the guide does not settle
(assumption log 5). It has no body: nothing can be proved of its value. -/
opaque freePosition : Nat → Nat

end Sys2Proof.Config
end

