-- ==== Sys2Proof/Machine/State.lean ====
section
/-! DEFINITION. Everything the guide gives the AS-860 to hold, block by block (Table 1-1), as plain
data; the reasons a step can stop; and the state right after cold start.

Each piece of state has one home. What the guide also shows under another name is computed from it:
a feed's user count (`State.users`), a path's result outstanding flag (`Path.resultOutstanding`), a
service's candidate list in rank order (`State.ranked`), ATTN (`State.attn`), the outstanding requests
(`State.outstanding`) and a taken output (`State.outputTaken`) (DESIGN CHOICE, assumption log 34). -/
namespace Sys2Proof.Machine

/-! ## Code values (Table 13-9) -/

/-- Kind of a feed (Table 3-1). -/
inductive FeedKind where
  | terrestrial | cable | satellite | noKind
deriving DecidableEq, Repr

/-- State of a feed (Table 3-2). -/
inductive FeedState where
  | off | on | setting | fault | retry
deriving DecidableEq, Repr

inductive Band where
  | low | high
deriving DecidableEq, Repr

inductive Polarisation where
  | vertical | horizontal
deriving DecidableEq, Repr

/-- The setting of a satellite feed, and the setting a satellite carrier needs (R2, section 3.3). -/
structure Setting where
  band : Band
  pol : Polarisation
deriving DecidableEq, Repr

/-- Modulation codes in the order of Table 2-3. -/
inductive Modulation where
  | qpsk | psk8 | apsk16 | qam64 | qam256 | tQpsk | tQam16 | tQam64
deriving DecidableEq, Repr

inductive PathMode where
  | off | list | manual
deriving DecidableEq, Repr

/-- State of a receive path (Table 4-2). -/
inductive PathState where
  | parked | waitFeed | settling | locking | locked | measuring | releasing | recovering
deriving DecidableEq, Repr

inductive MeasClass where
  | quality | level | content
deriving DecidableEq, Repr

inductive Requester where
  | list | recheck | probe
deriving DecidableEq, Repr

/-- How a measurement ended (Table 5-2). -/
inductive MeasOutcome where
  | complete | partialWindow | noLock | aborted | incomplete | truncated
deriving DecidableEq, Repr

/-- State of a sweep list (Table 6-3). -/
inductive ListState where
  | idle | running | resting | suspended | done
deriving DecidableEq, Repr

/-- Resume state of a SUSPENDED list (Table 6-2). -/
inductive ResumeState where
  | running | resting
deriving DecidableEq, Repr

inductive EntryStage where
  | notBegun | begun | inFlight
deriving DecidableEq, Repr

inductive DoneReason where
  | complete | empty
deriving DecidableEq, Repr

inductive Urgency where
  | urgent | routine
deriving DecidableEq, Repr

inductive RecheckReason where
  | activeMiss | activeStale | challenger | shelfLoss | versionChange | probe
deriving DecidableEq, Repr

/-- Reception state of a carrier (Table 7-2). -/
inductive ReceptionState where
  | unmeasured | fresh | stale | lost
deriving DecidableEq, Repr

/-- Content state of a carrier (section 5.6). -/
inductive ContentState where
  | new | known | changed
deriving DecidableEq, Repr

/-- Kind of a service; UNKNOWN until an entry is filed under it (Table 8-1). -/
inductive ServiceKind where
  | tv | radio | data | unknown
deriving DecidableEq, Repr

/-- Rank group of a candidate (Table 8-3). -/
inductive RankGroup where
  | a | b | c
deriving DecidableEq, Repr

/-- State of a slot (Table 9-2). -/
inductive SlotState where
  | vacant | seeking | onAir | switching | held | fault
deriving DecidableEq, Repr

/-- Reason of a slot's last route order (Table 9-1). -/
inductive OrderReason where
  | initial | better | failover | pin | resync | host
deriving DecidableEq, Repr

/-- State of a shelf (Table 10-2). -/
inductive ShelfState where
  | unknown | online | offline
deriving DecidableEq, Repr

/-- Stage of the order in flight (R155). -/
inductive Stage where
  | awaitingAccept | awaitingDone
deriving DecidableEq, Repr

/-- State of the survey (Table 11-1). -/
inductive SurveyState where
  | stopped | running | paused | stopping
deriving DecidableEq, Repr

/-- Scope of a RESTART (R176). -/
inductive RestartScope where
  | survey | all
deriving DecidableEq, Repr

/-- The nineteen posted notice kinds, in the order of Table 13-9 (codes 1 to 19). NOTICE_OVERFLOW,
code 20, is made at a fetch and never stands in the queue (R189). -/
inductive NoticeKind where
  | slotFailover | slotSeeking | slotFault | shelfOffline | feedFault | feedOff
  | listMark | listDone | carrierChanged | carrierLost | serviceFound | candidateOverflow
  | tableFull | recheckDropped | slotSwitched | routeLate | shelfReady | probeResult | surveyState
deriving DecidableEq, Repr

/-- Result codes in the order of Table 13-3. -/
inductive ResultCode where
  | ok | frameError | unknownKind | badLength | outOfRange | notFound | wrongState
  | busy | feedBusy | inUse | notTuned | noRoom | duplicate
deriving DecidableEq, Repr

/-! ## The Control Link -/

/-- The frame input of a serial line: it hunts, or it receives a frame whose bytes after the start
byte are `got`, the latest of which arrived at `at` (R179, R154). -/
inductive FrameInput where
  | hunting
  | receiving (got : List Byte) (at' : Stamp)
deriving DecidableEq, Repr

/-- A request frame: its kind byte, tag and body (R194). -/
structure Request where
  kind : Byte
  tag : Byte
  body : List Byte
deriving DecidableEq, Repr

/-- A reply owed to the controller, in the reply sequence (R182, R195): kind, tag, result code, and
the content after the code. -/
structure Reply where
  kind : Byte
  tag : Byte
  code : ResultCode
  content : List Byte
deriving DecidableEq, Repr

/-- What stands in the reply sequence behind an awaited RESTART: a request that is still to be taken, or the
place of a FRAME_ERROR reply (R176, R181, R182). -/
inductive Awaiting where
  | request (r : Request)
  | frameError
deriving DecidableEq, Repr

/-- A notice of the notice queue (R188). Its urgency is fixed by its kind. -/
structure Notice where
  kind : NoticeKind
  object : Nat
  count : Nat
  stamp : Stamp
  detail : List Byte
deriving DecidableEq, Repr

/-- Lower and upper limit of a level window (R94). -/
structure LevelWindow where
  lmin : Nat
  lmax : Nat
deriving DecidableEq, Repr

/-- The parameter set (Table 12-3), numbers 1 to 29 in order. -/
structure Params where
  settleTerrestrial : Nat
  settleCable : Nat
  settleSatellite : Nat
  lockTimeout : Nat
  minOccupancy : Nat
  releaseRecovery : Nat
  tuneSpacing : Nat
  feedSettle : Nat
  contentTimeout : Nat
  smoothing : Nat
  margin : Nat
  winCount : Nat
  holdDown : Nat
  staleLimit : Nat
  missLimit : Nat
  recheckWindow : Nat
  watermark : Nat
  prescaler : Nat
  /-- Required MER by modulation code (R93), parameters 19 to 26. -/
  requiredMer : Vector Nat 8
  windowTerrestrial : LevelWindow
  windowCable : LevelWindow
  windowSatellite : LevelWindow
deriving DecidableEq, Repr

/-! ## The Carrier Table -/

/-- Plan fields of a carrier (R2). `setting` is the band and polarisation, absent but for SATELLITE. -/
structure Plan where
  feed : Fin 6
  frequency : Nat
  setting : Option Setting
  rate : Nat
  modulation : Modulation
  enabled : Bool
deriving DecidableEq, Repr

/-- Reception fields of a carrier (Table 7-1). -/
structure Reception where
  state : ReceptionState
  standing : Option Nat
  lastScore : Option Nat
  scoredAt : Option Stamp
  samples : Nat
  misses : Nat
  levelAvg : Option Nat
  merAvg : Option Nat
  /-- End of the stale timer, which runs while the carrier is FRESH (R92). -/
  staleEnd : Option Stamp
deriving DecidableEq, Repr

/-- Identity of a multiplex: network id and stream id. -/
structure Multiplex where
  network : Nat
  stream : Nat
deriving DecidableEq, Repr

/-- Content fields of a carrier (Table 2-1, section 8.4). -/
structure Content where
  state : ContentState
  identity : Option Multiplex
  version : Option Nat
  truncated : Bool
deriving DecidableEq, Repr

/-- A used record of the Carrier Table (R1). -/
structure Carrier where
  plan : Plan
  reception : Reception
  content : Content
deriving DecidableEq, Repr

/-! ## Feeds -/

/-- A feed record (Table 3-1) with the end times of its timers. The user count is `State.users`. -/
structure Feed where
  kind : FeedKind
  supply : Bool
  preference : Nat
  state : FeedState
  setting : Option Setting
  waiting : List (Fin 8)
  faultCount : Nat
  lastTuneStart : Option Stamp
  /-- End of the setting settle (R20) or of the retry settle (R26). -/
  settleEnd : Option Stamp
  /-- End of the retry delay (R25). -/
  retryEnd : Option Stamp
  /-- End of the fault-count clearing timer (R28). -/
  clearEnd : Option Stamp
deriving DecidableEq, Repr

/-! ## Receive paths -/

/-- A measurement, wherever a path record holds one (Table 4-1). -/
structure Meas where
  cls : MeasClass
  window : Nat
  leadIn : Nat
  release : Bool
  requester : Requester
deriving DecidableEq, Repr

/-- A section held by a gathering record: its number, and its entries in the order sent. -/
structure HeldSection where
  number : Nat
  entries : List SentEntry
deriving DecidableEq, Repr

/-- Gathering record of a CONTENT read (Table 5-4). `head` is the identity, version and last section
gathered, absent while the record is empty. -/
structure GatheringHead where
  identity : Multiplex
  version : Nat
  last : Nat
deriving DecidableEq, Repr

structure Gathering where
  head : Option GatheringHead
  sections : List HeldSection
deriving DecidableEq, Repr

/-- The window that is running (Table 4-1), with its running sums (R57, R58) and, for a CONTENT read
past its lead-in, its gathering record (R62). `lead` is how many lead-in blocks this window runs:
none when it follows another window (R41, R42). `cut` says that the held measure will make the
half-point cut of R41. -/
structure Window where
  meas : Meas
  lead : Nat
  leadDone : Nat
  counted : Nat
  locked : Nat
  levelSum : Nat
  merSum : Nat
  erroredSum : Nat
  observation : Option Nat
  gathering : Option Gathering
  cut : Bool
deriving DecidableEq, Repr

/-- A TUNE taken in RECOVERING (Table 4-1). -/
structure HeldTune where
  carrier : Nat
  requester : Requester
  meas : Option Meas
deriving DecidableEq, Repr

/-- An entry of a built announcement (Table 5-5). An absent name is the empty list. -/
structure Announced where
  serviceId : Nat
  kind : ServiceKind
  scrambled : Bool
  running : Bool
  name : List Byte
deriving DecidableEq, Repr

/-- The announcement of a result record (R64). -/
structure Announcement where
  identity : Multiplex
  version : Nat
  truncated : Bool
  entries : List Announced
deriving DecidableEq, Repr

/-- A result record (Table 5-2). -/
structure Result where
  path : Fin 8
  carrier : Nat
  cls : Option MeasClass
  requester : Requester
  programmed : Option Nat
  counted : Nat
  outcome : MeasOutcome
  locked : Nat
  levelSum : Nat
  levelAvg : Option Nat
  merSum : Nat
  erroredSum : Nat
  observation : Option Nat
  announcement : Option Announcement
  stamp : Stamp
deriving DecidableEq, Repr

/-- A result handed over to the block of its class and not yet taken by it (R49). `applies` says
whether the carrier was enabled when the result was handed over (R9). -/
structure Handed where
  result : Result
  applies : Bool
deriving DecidableEq, Repr

/-- A path record (Table 4-1) with the end times of its timers. `tap` is the feed whose tap the path
holds (section 3.3), `tuneDue` a tune start granted and still held by tune spacing (R21), `outbox` the
results not yet taken, oldest first, which make up the result outstanding field. -/
structure Path where
  mode : PathMode
  pendingMode : Option PathMode
  state : PathState
  tuned : Option Nat
  tuneRequester : Option Requester
  posted : Option Meas
  window : Option Window
  held : Option Meas
  heldTune : Option HeldTune
  tuneStart : Option Stamp
  earliestDetach : Option Stamp
  releaseTime : Option Stamp
  outbox : List Handed
  tap : Option (Fin 6)
  tuneDue : Option Stamp
  /-- End of the settle timer (R36). -/
  settleEnd : Option Stamp
  /-- End of the lock timeout (R37). -/
  lockEnd : Option Stamp
  /-- End of the block in progress (R54). -/
  blockEnd : Option Stamp
  /-- End of the content timeout (R62). -/
  contentEnd : Option Stamp
  /-- End of the release recovery (R48). -/
  recoveryEnd : Option Stamp
deriving DecidableEq, Repr

/-! ## Sweep lists and rechecks -/

/-- A full entry of Plan Memory (Table 6-1). -/
structure SweepEntry where
  carrier : Nat
  cls : MeasClass
  window : Nat
  leadIn : Nat
  release : Bool
  rest : Nat
  note : Bool
deriving DecidableEq, Repr

/-- A list descriptor (R72). -/
structure Descriptor where
  first : Nat
  length : Nat
  passes : Nat
  rechecks : Bool
deriving DecidableEq, Repr

/-- A Recheck Queue entry (Table 6-5). -/
structure Recheck where
  carrier : Nat
  cls : MeasClass
  urgency : Urgency
  reason : RecheckReason
  arrival : Stamp
deriving DecidableEq, Repr

/-- A recheck lent to a path (R90): the entry as it left the queue, the measurement built at the
dispatch, and whether its TUNE or MEASURE has been issued. -/
structure Loan where
  entry : Recheck
  meas : Meas
  issued : Bool
deriving DecidableEq, Repr

/-- The entry a list has begun, as it was read (R76, R78). -/
structure CurrentEntry where
  index : Nat
  entry : SweepEntry
deriving DecidableEq, Repr

/-- A list's descriptor and record (Table 6-2). `current` is the entry begun or in flight, `restBegan`
the moment the rest began or resumed (R81), and `direct` says that the list is about to begin an entry
without offering its path before it, because a loan has just ended with the rest over (R88, R91). -/
structure SweepList where
  descriptor : Option Descriptor
  state : ListState
  position : Nat
  pass : Nat
  rest : Nat
  allSkipped : Bool
  stage : EntryStage
  seek : Option Nat
  loan : Option Loan
  resume : Option ResumeState
  doneReason : Option DoneReason
  current : Option CurrentEntry
  restBegan : Option Stamp
  direct : Bool
deriving DecidableEq, Repr

/-! ## Services, bound pairs and candidates -/

/-- A pair: network id and service id (section 8.1). -/
structure Pair where
  network : Nat
  serviceId : Nat
deriving DecidableEq, Repr

/-- The name of a candidate on the Control Link and in slot records (R109). -/
structure CandName where
  carrier : Nat
  serviceId : Nat
deriving DecidableEq, Repr

/-- A candidate of the service that lists it (Table 8-2). -/
structure Candidate where
  name : CandName
  absent : Bool
  scrambled : Bool
  running : Bool
  orphan : Bool
deriving DecidableEq, Repr

/-- A service record but for its key (Table 8-1). `pair` is the origin pair of a FOUND service. The
candidates are kept in rising order of carrier and service id; rank order is computed (R111). -/
structure Service where
  pair : Option Pair
  kind : ServiceKind
  name : List Byte
  cands : List Candidate
deriving DecidableEq, Repr

/-- A mapping from a pair to a controller key (R108). -/
structure PairBinding where
  pair : Pair
  key : Nat
deriving DecidableEq, Repr

/-! ## Slots and shelves -/

/-- What a slot that is not VACANT is bound to (Table 9-1). -/
structure SlotBinding where
  key : Nat
  shelf : Fin 4
  output : Fin 16
deriving DecidableEq, Repr

/-- A barred candidate and its barred end (Table 9-1). -/
structure Bar where
  cand : CandName
  until' : Stamp
deriving DecidableEq, Repr

/-- A slot record (Table 9-1). -/
structure Slot where
  binding : Option SlotBinding
  scrambledAllowed : Bool
  state : SlotState
  pinned : Bool
  active : Option CandName
  target : Option CandName
  challenger : Option CandName
  wins : Nat
  holdEnd : Option Stamp
  bar : Option Bar
  failures : Nat
  lastReason : Option OrderReason
  lastTag : Option Byte
  lastTarget : Option CandName
deriving DecidableEq, Repr

/-- Routing fields of a SET order, as they stood when it was handed over (R156). -/
structure Routing where
  feed : Fin 6
  frequency : Nat
  setting : Option Setting
  rate : Nat
  modulation : Modulation
  serviceId : Nat
deriving DecidableEq, Repr

/-- What an order asks of its output: a SET handed over by a slot, or a CLEAR (R155). -/
inductive OrderKind where
  | set (slot : Fin 64) (routing : Routing)
  | clear
deriving DecidableEq, Repr

/-- An order of the Route Link (R155). `putBack` is the model's own: a READY has put the order back in the queue, to be sent
again (R165, assumption log 48); no record shows it. -/
structure Order where
  tag : Byte
  output : Fin 16
  kind : OrderKind
  putBack : Bool
deriving DecidableEq, Repr

/-- The order in flight on a shelf, its stage, and the end of the timer of that stage, absent until
the order has been sent (R158). -/
structure Flight where
  order : Order
  stage : Stage
  timerEnd : Option Stamp
deriving DecidableEq, Repr

/-- A shelf record (Table 10-1) and the frame input of its Shelf Line receiver (R154, R155). -/
structure Shelf where
  state : ShelfState
  nextTag : Byte
  queue : List Order
  inFlight : Option Flight
  timeouts : Nat
  lastOrdering : Vector (Option (Fin 64)) 16
  input : FrameInput
deriving DecidableEq, Repr

/-! ## The machine -/

/-- A fault would be a stop that the guide describes; it describes none, so there is no reason of
this kind and no command ever stops with a fault (assumption log 33). Safe: nothing is hidden by it. -/
inductive Fault where
deriving DecidableEq, Repr

/-- Why the model answers a command with a refusal. -/
inductive Refusal where
  /-- Raised by `exec` for a command that has no meaning yet. Safe: the run stops there. No arm of
  `exec` raises it, since every command of the table has its meaning. -/
  | notModelled (mnemonic : String)
deriving DecidableEq, Repr

/-- The state of the module. -/
structure State where
  /-- The millisecond clock (section 1.5). -/
  clock : Stamp
  /-- The commands waiting to be taken, first in, first out. The model's own (DESIGN CHOICE, log 1). -/
  pending : List Instr
  /-- The Control Link's frame input (R179). -/
  frameInput : FrameInput
  /-- Requests complete and waiting in the frame input for a RESTART to be carried out (R176, R182), and among them
  the place of a FRAME_ERROR reply owed behind them (R181). -/
  waiting : List Awaiting
  /-- Replies owed and not yet sent, in line order (R182). -/
  replies : List Reply
  /-- A RESTART accepted and not yet carried out (R176). -/
  restarting : Option RestartScope
  /-- The notice queue in fetch order: urgent notices, then routine ones, each in place order (R188). -/
  notices : List Notice
  /-- Masked kinds, bit n for notice code n (R190). -/
  masks : BitVec 32
  /-- The raw event summary, bit n for notice code n (R187). -/
  summary : BitVec 32
  /-- Overflow count, overflow marker and time of the last overflow (R188). -/
  overflowCount : Nat
  overflowMarker : Bool
  overflowTime : Stamp
  /-- The parameter set (Table 12-3). -/
  params : Params
  /-- The Carrier Table: its used records (R1). -/
  carriers : Store Carrier
  /-- The feed records (R15). -/
  feeds : Vector Feed 6
  /-- The path records (R30). -/
  paths : Vector Path 8
  /-- Plan Memory: its entries that are not blank (R70). -/
  planMemory : Store SweepEntry
  /-- The list descriptors and list records (R73). -/
  lists : Vector SweepList 8
  /-- End of the tick in progress (R80). -/
  tickEnd : Stamp
  /-- The Recheck Queue from its head (R83). -/
  recheckQueue : List Recheck
  /-- The survey state (R169). -/
  survey : SurveyState
  /-- The service table (R107). -/
  services : Store Service
  /-- The table of pairs bound to controller keys, in rising order of pair (R108). -/
  bindings : List PairBinding
  /-- The slot records (R129). -/
  slots : Vector Slot 64
  /-- The shelf records (R155). -/
  shelves : Vector Shelf 4
  /-- How many free values have been used. The model's own: `Config.freeByte`, `Config.freeHalf` and
  `Config.freePosition` are read at this number (DESIGN CHOICE, logs 3, 4, 5). -/
  freeCount : Nat
deriving DecidableEq, Repr

/-! ## Cold start (R178) -/

/-- Default parameter set (Table 12-3, Tables 7-3 and 7-4). -/
def Params.default : Params where
  settleTerrestrial := 60
  settleCable := 40
  settleSatellite := 80
  lockTimeout := 300
  minOccupancy := 200
  releaseRecovery := 20
  tuneSpacing := 10
  feedSettle := 40
  contentTimeout := 3000
  smoothing := 4
  margin := 40
  winCount := 3
  holdDown := 120
  staleLimit := 600
  missLimit := 3
  recheckWindow := 4
  watermark := 1
  prescaler := 9
  requiredMer := #v[50, 85, 115, 250, 310, 60, 120, 185]
  windowTerrestrial := ⟨90, 150⟩
  windowCable := ⟨100, 150⟩
  windowSatellite := ⟨100, 160⟩

/-- A feed record at cold start (Table 3-1). -/
def Feed.cold : Feed where
  kind := .noKind
  supply := false
  preference := 0
  state := .off
  setting := none
  waiting := []
  faultCount := 0
  lastTuneStart := none
  settleEnd := none
  retryEnd := none
  clearEnd := none

/-- A path record at cold start (Table 4-1). -/
def Path.cold : Path where
  mode := .off
  pendingMode := none
  state := .parked
  tuned := none
  tuneRequester := none
  posted := none
  window := none
  held := none
  heldTune := none
  tuneStart := none
  earliestDetach := none
  releaseTime := none
  outbox := []
  tap := none
  tuneDue := none
  settleEnd := none
  lockEnd := none
  blockEnd := none
  contentEnd := none
  recoveryEnd := none

/-- A list record at cold start (Table 6-2), with no descriptor (R72). -/
def SweepList.cold : SweepList where
  descriptor := none
  state := .idle
  position := 0
  pass := 1
  rest := 0
  allSkipped := false
  stage := .notBegun
  seek := none
  loan := none
  resume := none
  doneReason := none
  current := none
  restBegan := none
  direct := false

/-- A slot record at cold start (Table 9-1). -/
def Slot.cold : Slot where
  binding := none
  scrambledAllowed := false
  state := .vacant
  pinned := false
  active := none
  target := none
  challenger := none
  wins := 0
  holdEnd := none
  bar := none
  failures := 0
  lastReason := none
  lastTag := none
  lastTarget := none

/-- A shelf record at cold start (Table 10-1), its receiver hunting (R155). -/
def Shelf.cold : Shelf where
  state := .unknown
  nextTag := 0
  queue := []
  inFlight := none
  timeouts := 0
  lastOrdering := Vector.replicate 16 none
  input := .hunting

/-- Reception fields of a carrier when it is created (Table 2-1). -/
def Reception.creation : Reception where
  state := .unmeasured
  standing := none
  lastScore := none
  scoredAt := none
  samples := 0
  misses := 0
  levelAvg := none
  merAvg := none
  staleEnd := none

/-- Content fields of a carrier when it is created (Table 2-1). -/
def Content.creation : Content where
  state := .new
  identity := none
  version := none
  truncated := false

/-- The module right after cold start (R178, R192). The clock is 0 and the first tick, of 100 ms,
begins there (R80). The fields that are the model's own begin absent, empty or 0 (DESIGN CHOICE, assumption log 32). -/
def State.reset : State where
  clock := 0
  pending := []
  frameInput := .hunting
  waiting := []
  replies := []
  restarting := none
  notices := []
  masks := 0
  summary := 0
  overflowCount := 0
  overflowMarker := false
  overflowTime := 0
  params := Params.default
  carriers := []
  feeds := Vector.replicate 6 Feed.cold
  paths := Vector.replicate 8 Path.cold
  planMemory := []
  lists := Vector.replicate 8 SweepList.cold
  tickEnd := 100
  recheckQueue := []
  survey := .stopped
  services := []
  bindings := []
  slots := Vector.replicate 64 Slot.cold
  shelves := Vector.replicate 4 Shelf.cold
  freeCount := 0

end Sys2Proof.Machine
end

