-- ==== Sys2Proof/Machine/Ops.lean ====
section
/-! DEFINITION. The operations every block shares: the sparse tables, the clock and its end times, the
numbered records of State, the order of a small list. -/
namespace Sys2Proof.Machine

/-! ## Sparse tables -/

/-- The record at number `i`, if one is listed. -/
def Store.find {α : Type} : Store α → Nat → Option α
  | [], _ => none
  | (k, v) :: r, i => if k = i then some v else Store.find r i

/-- The table with `v` at number `i`, keeping the rising order of numbers. -/
def Store.put {α : Type} : Store α → Nat → α → Store α
  | [], i, v => [(i, v)]
  | (k, w) :: r, i, v =>
    if i < k then (i, v) :: (k, w) :: r
    else if i = k then (i, v) :: r
    else (k, w) :: Store.put r i v

/-- The table without a record at number `i`. -/
def Store.del {α : Type} (t : Store α) (i : Nat) : Store α :=
  t.filter fun e => !decide (e.1 = i)

/-- The numbers in use, in rising order. -/
def Store.keys {α : Type} (t : Store α) : List Nat := t.map (·.1)

/-- The canonical form: numbers strictly rising. -/
def Store.wf {α : Type} : Store α → Bool
  | [] => true
  | [_] => true
  | (i, _) :: (j, w) :: r => decide (i < j) && Store.wf ((j, w) :: r)

/-! ## The clock -/

/-- `n` ms as a length of clock time. -/
def ms (n : Nat) : Stamp := BitVec.ofNat 32 n

/-- The clock reading `now` has reached the end time `e`. Stamps are compared modulo 2^32
(section 1.5); the half range that decides is the model's (DESIGN CHOICE, assumption log 2). -/
def reached (now e : Stamp) : Bool := decide ((now - e).toNat < 2 ^ 31)

/-- A timer that runs has ended. -/
def isDue (now : Stamp) : Option Stamp → Bool
  | none => false
  | some e => reached now e

/-- An end time that is absent, or that the clock has reached. -/
def hasPassed (now : Stamp) : Option Stamp → Bool
  | none => true
  | some e => reached now e

/-- The later of `now` and `e`. -/
def laterOf (now e : Stamp) : Stamp := if reached now e then now else e

/-- The age of a stamp, modulo 2^32 (R102). -/
def age (now t : Stamp) : Nat := (now - t).toNat

/-! ## Numbers -/

/-- The index `x` of a table of `n` records. -/
def fin? (n x : Nat) : Option (Fin n) := if h : x < n then some ⟨x, h⟩ else none

/-- A count raised by one that holds at `top` (section 1.5). -/
def bump (top n : Nat) : Nat := min top (n + 1)

/-- `x` put into an ordered list in front of the first element it comes before. -/
def insertBy {α : Type} (before : α → α → Bool) (x : α) : List α → List α
  | [] => [x]
  | y :: r => if before x y then x :: y :: r else y :: insertBy before x r

/-- The list in the order that `before` gives. -/
def sortBy {α : Type} (before : α → α → Bool) : List α → List α
  | [] => []
  | x :: r => insertBy before x (sortBy before r)

/-- The index of the first element that satisfies `p`. -/
def firstIdx {α : Type} (p : α → Bool) : List α → Option Nat
  | [] => none
  | x :: r => if p x then some 0 else (firstIdx p r).map (· + 1)

/-- A list of keys in rising order, each once. -/
def addKey (k : Nat) : List Nat → List Nat
  | [] => [k]
  | j :: r => if k < j then k :: j :: r else if k = j then j :: r else j :: addKey k r

/-! ## The numbered records of State -/

/-- Record `i` of a full table. -/
def tabGet {α : Type} {n : Nat} (t : Vector α n) (i : Fin n) : α := t[i.1]

/-- The full table with `x` as record `i`. -/
def tabSet {α : Type} {n : Nat} (t : Vector α n) (i : Fin n) (x : α) : Vector α n := t.set i.1 x i.2

/-- The full table with `f` applied to every record. -/
def tabMap {α : Type} {n : Nat} (f : α → α) (t : Vector α n) : Vector α n :=
  Vector.mk ⟨t.toList.map f⟩ (by simp)

def allFeeds : List (Fin 6) := [0, 1, 2, 3, 4, 5]
def allPaths : List (Fin 8) := [0, 1, 2, 3, 4, 5, 6, 7]
def allShelves : List (Fin 4) := [0, 1, 2, 3]
def allSlots : List (Fin 64) := List.finRange 64

def State.feed (s : State) (f : Fin 6) : Feed := tabGet s.feeds f
def State.path (s : State) (p : Fin 8) : Path := tabGet s.paths p
def State.sweep (s : State) (n : Fin 8) : SweepList := tabGet s.lists n
def State.slot (s : State) (i : Fin 64) : Slot := tabGet s.slots i
def State.shelf (s : State) (h : Fin 4) : Shelf := tabGet s.shelves h
/-- The used carrier record at an index (R1). -/
def State.carrier (s : State) (c : Nat) : Option Carrier := Store.find s.carriers c
/-- The service that holds a key (R107). -/
def State.service (s : State) (k : Nat) : Option Service := Store.find s.services k

def State.setFeed (s : State) (f : Fin 6) (x : Feed) : State :=
  { s with feeds := tabSet s.feeds f x }
def State.setPath (s : State) (p : Fin 8) (x : Path) : State :=
  { s with paths := tabSet s.paths p x }
def State.setSweep (s : State) (n : Fin 8) (x : SweepList) : State :=
  { s with lists := tabSet s.lists n x }
def State.setSlot (s : State) (i : Fin 64) (x : Slot) : State :=
  { s with slots := tabSet s.slots i x }
def State.setShelf (s : State) (h : Fin 4) (x : Shelf) : State :=
  { s with shelves := tabSet s.shelves h x }
def State.setCarrier (s : State) (c : Nat) (x : Carrier) : State :=
  { s with carriers := Store.put s.carriers c x }
def State.setService (s : State) (k : Nat) (x : Service) : State :=
  { s with services := Store.put s.services k x }

/-- The kind of the feed that a carrier's plan names. -/
def State.kindOf (s : State) (c : Carrier) : FeedKind := (s.feed c.plan.feed).kind

/-- A carrier index is used and its carrier enabled (section 2.1). -/
def State.enabled (s : State) (c : Nat) : Bool :=
  match s.carrier c with
  | some x => x.plan.enabled
  | none => false

/-- The number of records of a table that satisfy a test. -/
def countWhere {α : Type} (p : α → Bool) (l : List α) : Nat := (l.filter p).length

/-- Paths attached to a feed, each holding one tap: the user count of Table 3-1. -/
def State.users (s : State) (f : Fin 6) : Nat :=
  countWhere (fun p => decide ((s.path p).tap = some f)) allPaths

end Sys2Proof.Machine
end

