-- ==== Sys2Proof/Machine/Operands.lean ====
section
/-! DEFINITION. The forms data take on the lines: little-endian numbers and absent values (R193), the
code values of Tables 2-3, 13-2, 13-3 and 13-9, and the operand tests of the request check order (R183). -/
namespace Sys2Proof.Machine

/-! ## Numbers on the lines (R193) -/

def byteOf (n : Nat) : Byte := BitVec.ofNat 8 n

/-- A two-byte number, least significant byte first. -/
def le16 (n : Nat) : List Byte := [byteOf n, byteOf (n / 256)]

/-- A four-byte number, least significant byte first. -/
def le32 (n : Nat) : List Byte := [byteOf n, byteOf (n / 256), byteOf (n / 65536), byteOf (n / 16777216)]

/-- The number that two bytes carry. -/
def num16 (a b : Byte) : Nat := a.toNat + 256 * b.toNat

/-- The number that four bytes carry. -/
def num32 (a b c d : Byte) : Nat :=
  a.toNat + 256 * b.toNat + 65536 * c.toNat + 16777216 * d.toNat

def stampBytes (t : Stamp) : List Byte := le32 t.toNat

def flagByte (b : Bool) : Byte := if b then 1 else 0

/-- A one-byte number or enumeration without a presence bit: absent as 0xFF. -/
def byteOr (x : Option Nat) : Byte :=
  match x with
  | some n => byteOf n
  | none => 0xFF

/-- A two-byte number whose range stops below 65535: absent as 0xFFFF. -/
def halfOr (x : Option Nat) : List Byte := le16 (x.getD 0xFFFF)

/-- A field of `n` bytes with a presence bit: its bytes, or 0 when it is absent. -/
def fieldOr (n : Nat) (x : Option (List Byte)) : List Byte := x.getD (List.replicate n 0)

/-- A presence field: bit 0 is the first field. -/
def presence : List Bool → Nat
  | [] => 0
  | b :: r => (if b then 1 else 0) + 2 * presence r

/-- `l` followed by zeros up to `n` bytes. -/
def padTo (n : Nat) (l : List Byte) : List Byte := l ++ List.replicate (n - l.length) 0

/-- A candidate: the carrier, then the service id. -/
def CandName.bytes (x : CandName) : List Byte := byteOf x.carrier :: le16 x.serviceId

/-- A name: its length, then 20 characters. -/
def nameBytes (l : List Byte) : List Byte := byteOf l.length :: padTo 20 l

/-! ## Codes of Table 13-9 and Table 2-3 -/

def FeedKind.code : FeedKind → Nat
  | .terrestrial => 0 | .cable => 1 | .satellite => 2 | .noKind => 3

def FeedKind.ofCode : Nat → Option FeedKind
  | 0 => some .terrestrial | 1 => some .cable | 2 => some .satellite | 3 => some .noKind
  | _ => none

def FeedState.code : FeedState → Nat
  | .off => 0 | .on => 1 | .setting => 2 | .fault => 3 | .retry => 4

def Band.code : Band → Nat
  | .low => 0 | .high => 1

def Polarisation.code : Polarisation → Nat
  | .vertical => 0 | .horizontal => 1

def Modulation.code : Modulation → Nat
  | .qpsk => 0 | .psk8 => 1 | .apsk16 => 2 | .qam64 => 3 | .qam256 => 4 | .tQpsk => 5 | .tQam16 => 6 | .tQam64 => 7

def Modulation.ofCode : Nat → Option Modulation
  | 0 => some .qpsk | 1 => some .psk8 | 2 => some .apsk16 | 3 => some .qam64
  | 4 => some .qam256 | 5 => some .tQpsk | 6 => some .tQam16 | 7 => some .tQam64
  | _ => none

/-- The feed kind a modulation suits (Table 2-3). -/
def Modulation.suits : Modulation → FeedKind
  | .qpsk | .psk8 | .apsk16 => .satellite
  | .qam64 | .qam256 => .cable
  | .tQpsk | .tQam16 | .tQam64 => .terrestrial

/-- The modulation's place in the threshold table (Table 7-3). -/
def Modulation.index : Modulation → Fin 8
  | .qpsk => 0 | .psk8 => 1 | .apsk16 => 2 | .qam64 => 3 | .qam256 => 4 | .tQpsk => 5 | .tQam16 => 6 | .tQam64 => 7

def PathMode.code : PathMode → Nat
  | .off => 0 | .list => 1 | .manual => 2

def PathMode.ofCode : Nat → Option PathMode
  | 0 => some .off | 1 => some .list | 2 => some .manual
  | _ => none

def PathState.code : PathState → Nat
  | .parked => 0 | .waitFeed => 1 | .settling => 2 | .locking => 3
  | .locked => 4 | .measuring => 5 | .releasing => 6 | .recovering => 7

def MeasClass.code : MeasClass → Nat
  | .quality => 0 | .level => 1 | .content => 2

def MeasClass.ofCode : Nat → Option MeasClass
  | 0 => some .quality | 1 => some .level | 2 => some .content
  | _ => none

def Requester.code : Requester → Nat
  | .list => 0 | .recheck => 1 | .probe => 2

def MeasOutcome.code : MeasOutcome → Nat
  | .complete => 0 | .partialWindow => 1 | .noLock => 2 | .aborted => 3 | .incomplete => 4 | .truncated => 5

def ListState.code : ListState → Nat
  | .idle => 0 | .running => 1 | .resting => 2 | .suspended => 3 | .done => 4

/-- A resume state is carried with the codes of the list states it names. -/
def ResumeState.code : ResumeState → Nat
  | .running => 1 | .resting => 2

def EntryStage.code : EntryStage → Nat
  | .notBegun => 0 | .begun => 1 | .inFlight => 2

def DoneReason.code : DoneReason → Nat
  | .complete => 0 | .empty => 1

def Urgency.code : Urgency → Nat
  | .urgent => 0 | .routine => 1

def Urgency.ofCode : Nat → Option Urgency
  | 0 => some .urgent | 1 => some .routine
  | _ => none

def RecheckReason.code : RecheckReason → Nat
  | .activeMiss => 0 | .activeStale => 1 | .challenger => 2 | .shelfLoss => 3 | .versionChange => 4 | .probe => 5

def ReceptionState.code : ReceptionState → Nat
  | .unmeasured => 0 | .fresh => 1 | .stale => 2 | .lost => 3

def ContentState.code : ContentState → Nat
  | .new => 0 | .known => 1 | .changed => 2

def ServiceKind.code : ServiceKind → Nat
  | .tv => 0 | .radio => 1 | .data => 2 | .unknown => 3

/-- The kind an announced entry carries: TV, RADIO or DATA, or none of them (R64). -/
def ServiceKind.announced : Nat → Option ServiceKind
  | 0 => some .tv | 1 => some .radio | 2 => some .data
  | _ => none

def RankGroup.code : RankGroup → Nat
  | .a => 0 | .b => 1 | .c => 2

def SlotState.code : SlotState → Nat
  | .vacant => 0 | .seeking => 1 | .onAir => 2 | .switching => 3 | .held => 4 | .fault => 5

def OrderReason.code : OrderReason → Nat
  | .initial => 0 | .better => 1 | .failover => 2 | .pin => 3 | .resync => 4 | .host => 5

def ShelfState.code : ShelfState → Nat
  | .unknown => 0 | .online => 1 | .offline => 2

def Stage.code : Stage → Nat
  | .awaitingAccept => 0 | .awaitingDone => 1

def OrderKind.code : OrderKind → Nat
  | .set _ _ => 0 | .clear => 1

def SurveyState.code : SurveyState → Nat
  | .stopped => 0 | .running => 1 | .paused => 2 | .stopping => 3

def NoticeKind.code : NoticeKind → Nat
  | .slotFailover => 1 | .slotSeeking => 2 | .slotFault => 3 | .shelfOffline => 4
  | .feedFault => 5 | .feedOff => 6 | .listMark => 7 | .listDone => 8
  | .carrierChanged => 9 | .carrierLost => 10 | .serviceFound => 11 | .candidateOverflow => 12
  | .tableFull => 13 | .recheckDropped => 14 | .slotSwitched => 15 | .routeLate => 16
  | .shelfReady => 17 | .probeResult => 18 | .surveyState => 19

def NoticeKind.ofCode : Nat → Option NoticeKind
  | 1 => some .slotFailover | 2 => some .slotSeeking | 3 => some .slotFault | 4 => some .shelfOffline
  | 5 => some .feedFault | 6 => some .feedOff | 7 => some .listMark | 8 => some .listDone
  | 9 => some .carrierChanged | 10 => some .carrierLost | 11 => some .serviceFound
  | 12 => some .candidateOverflow | 13 => some .tableFull | 14 => some .recheckDropped
  | 15 => some .slotSwitched | 16 => some .routeLate | 17 => some .shelfReady
  | 18 => some .probeResult | 19 => some .surveyState
  | _ => none

/-- Code of NOTICE_OVERFLOW (Table 13-9). -/
def overflowCode : Nat := 20

/-- Urgency of a notice kind (Table 12-4). -/
def NoticeKind.urgency : NoticeKind → Urgency
  | .slotFailover | .slotSeeking | .slotFault | .shelfOffline | .feedFault | .feedOff => .urgent
  | _ => .routine

/-- Result codes (Table 13-3). -/
def ResultCode.code : ResultCode → Nat
  | .ok => 0 | .frameError => 1 | .unknownKind => 2 | .badLength => 3 | .outOfRange => 4 | .notFound => 5
  | .wrongState => 6 | .busy => 7 | .feedBusy => 8 | .inUse => 9 | .notTuned => 10 | .noRoom => 11 | .duplicate => 12

/-! ## Answers and the request check order (R183) -/

/-- What a reply carries after kind and tag: the result code and the content of Table 13-5. -/
structure Answer where
  code : ResultCode
  content : List Byte
deriving DecidableEq, Repr

def Answer.ok (content : List Byte := []) : Answer := ⟨.ok, content⟩

/-- OUT_OF_RANGE with the number of the failing field. -/
def Answer.range (field : Nat) : Answer := ⟨.outOfRange, [byteOf field]⟩

/-- A refusal that carries nothing after its code. -/
def Answer.refuse (code : ResultCode) : Answer := ⟨code, []⟩

/-- The checks of a request: the first failure's answer, or the operands that passed. -/
abbrev Checked (α : Type) := Except Answer α

/-- Operand test of a field: OUT_OF_RANGE with its number when it carries no value of its range. -/
def field {α : Type} (n : Nat) : Option α → Checked α
  | some x => .ok x
  | none => .error (Answer.range n)

/-- Operand test of a field that is only compared. -/
def inRange (n : Nat) (ok : Bool) : Checked Unit :=
  if ok then .ok () else .error (Answer.range n)

/-- A test of steps 5 to 7: the request is refused with `code` when `bad` holds. -/
def refuseIf (bad : Bool) (code : ResultCode) : Checked Unit :=
  if bad then .error (Answer.refuse code) else .ok ()

/-- The named object exists, or NOT_FOUND. -/
def exists? {α : Type} : Option α → Checked α
  | some x => .ok x
  | none => .error (Answer.refuse .notFound)

/-- A refused request changes nothing; one that passes is carried out (R182). -/
def carryOut {α : Type} (c : Checked α) (act : α → State → Answer × State) (s : State) : Answer × State :=
  match c with
  | .error a => (a, s)
  | .ok x => act x s

/-- A request that passes replies OK with no content, and is carried out. -/
def carryOutOk {α : Type} (c : Checked α) (act : α → State → State) (s : State) : Answer × State :=
  carryOut c (fun x s => (Answer.ok, act x s)) s

/-- A flag operand: 0 for no, 1 for yes. -/
def flag? (b : Byte) : Option Bool :=
  if b = 0 then some false else if b = 1 then some true else none

/-- A window operand: 4 or 8 blocks. -/
def window? (b : Byte) : Option Nat :=
  if b.toNat = 4 || b.toNat = 8 then some b.toNat else none

/-- A number operand of at most `top`. -/
def upTo? (top n : Nat) : Option Nat := if n ≤ top then some n else none

/-- A number operand that lies in `lo` to `hi`. -/
def between? (lo hi n : Nat) : Option Nat := if lo ≤ n && n ≤ hi then some n else none

end Sys2Proof.Machine
end

