-- ==== Sys2Proof/Machine/Flags.lean ====
section
/-! DEFINITION. The flags of the Control Link: the raw event summary (R187), the masks (R190) and the
ATTN output (R191). -/
namespace Sys2Proof.Machine

/-- Bit n of a set of notice kinds, for the kind with code n (Table 13-8). -/
def kindBit (k : NoticeKind) : BitVec 32 := BitVec.ofNat 32 (2 ^ k.code)

/-- A set of notice kinds holds a kind. -/
def hasKind (set : BitVec 32) (k : NoticeKind) : Bool := decide (set &&& kindBit k ≠ 0)

def withKind (set : BitVec 32) (k : NoticeKind) : BitVec 32 := set ||| kindBit k

def withoutKind (set : BitVec 32) (k : NoticeKind) : BitVec 32 := set &&& ~~~ kindBit k

def Notice.urgent (n : Notice) : Bool := decide (n.kind.urgency = .urgent)

/-- Urgent and routine notices queued (R184). -/
def State.urgentCount (s : State) : Nat := countWhere Notice.urgent s.notices
def State.routineCount (s : State) : Nat := countWhere (fun n => !n.urgent) s.notices

/-- ATTN is asserted (R191): as many notices as the watermark, an urgent notice, or the overflow marker. -/
def State.attn (s : State) : Bool :=
  decide (s.params.watermark ≤ s.notices.length) || s.notices.any Notice.urgent || s.overflowMarker

end Sys2Proof.Machine
end

