-- ==== Sys2Proof/Machine/Notices.lean ====
section
/-! DEFINITION. Posting an event to the Control Link (R187) and placing it in the notice queue (R188). -/
namespace Sys2Proof.Machine

/-- A queued notice of the given kind and object. -/
def Notice.about (k : NoticeKind) (o : Nat) (n : Notice) : Bool := decide (n.kind = k ∧ n.object = o)

/-- An event joins a queued notice (R188, first case). -/
def Notice.joined (t : Stamp) (detail : List Byte) (n : Notice) : Notice :=
  { n with count := bump 255 n.count, stamp := t, detail := detail }

/-- An event refused a place, or a notice removed, is counted (R188). -/
def State.overflowed (s : State) : State :=
  { s with
    overflowCount := bump 255 s.overflowCount
    overflowMarker := true
    overflowTime := s.clock }

/-- The queue with an urgent notice behind every queued urgent notice. -/
def placeUrgent (n : Notice) (q : List Notice) : List Notice :=
  q.takeWhile Notice.urgent ++ n :: q.dropWhile Notice.urgent

/-- Placing an unmasked event (R188). -/
def State.placeNotice (k : NoticeKind) (o : Nat) (detail : List Byte) (s : State) : State :=
  let n : Notice := { kind := k, object := o, count := 1, stamp := s.clock, detail := detail }
  if s.notices.any (Notice.about k o) then
    { s with notices := s.notices.map fun m => if m.about k o then m.joined s.clock detail else m }
  else match k.urgency with
    | .routine =>
      if s.routineCount < Config.routinePlaces && s.notices.length < Config.noticePlaces then
        { s with notices := s.notices ++ [n] }
      else s.overflowed
    | .urgent =>
      if s.notices.length < Config.noticePlaces then
        { s with notices := placeUrgent n s.notices }
      else if s.notices.any (fun m => !m.urgent) then
        ({ s with notices := placeUrgent n s.notices.dropLast } : State).overflowed
      else s.overflowed

/-- Posting an event (R187): the summary flag is set, and an unmasked event is placed. -/
def State.post (k : NoticeKind) (o : Nat) (detail : List Byte) (s : State) : State :=
  let s := { s with summary := withKind s.summary k }
  if hasKind s.masks k then s else s.placeNotice k o detail

end Sys2Proof.Machine
end

