-- ==== Sys2Proof/Machine/ControlLink.lean ====
section
/-! DEFINITION. The lines' framing: the check value (R180), the receiver shared by the Control Link and the
Shelf Lines (R154, R179), the reply sequence (R181, R182, R195) and the frames that carry replies. -/
namespace Sys2Proof.Machine

/-! ## The check value (R180) -/

/-- One bit shifted through the register; the generator is x^16 + x^12 + x^5 + 1. -/
def crcShift (r : BitVec 16) : BitVec 16 := if r.msb then (r <<< 1) ^^^ 0x1021 else r <<< 1

/-- One byte taken into the register, most significant bit first. -/
def crcByte (r : BitVec 16) (b : Byte) : BitVec 16 :=
  crcShift (crcShift (crcShift (crcShift (crcShift (crcShift (crcShift (crcShift (r ^^^ (b.zeroExtend 16 <<< 8)))))))))

/-- The check value of the covered bytes. -/
def checkValue (l : List Byte) : BitVec 16 := l.foldl crcByte 0xFFFF

/-- The check value as it is sent, low byte first. -/
def checkBytes (l : List Byte) : List Byte := le16 (checkValue l).toNat

/-- A whole frame as it is sent (Table 13-1). -/
def frameBytes (kind tag : Byte) (body : List Byte) : List Byte :=
  let covered := le16 body.length ++ kind :: tag :: body
  0xA5 :: covered ++ checkBytes covered

/-! ## The receiver (R154, R179) -/

/-- What a receiver reports after a character. -/
inductive FrameEvent where
  | none
  | discard
  | frame (kind tag : Byte) (body : List Byte)
deriving DecidableEq, Repr

/-- More than 20 ms have passed since the latest byte of the frame in reception. -/
def gapPassed (now last : Stamp) : Bool := decide (Config.byteGap < age now last)

/-- The body length that the gathered bytes give, once both its bytes are there. -/
def lengthOf (got : List Byte) : Option Nat :=
  match got with
  | a :: b :: _ => some (num16 a b)
  | _ => none

/-- The bytes gathered of a frame, complete and tested (R180), complete and failing, too long, or still to
be gathered on. A Shelf Line receiver, for which R154 names no moment, takes the same moments: a length above 1024 is
discarded at its second byte, and a length or kind that no shelf reply has when the frame is whole (DESIGN CHOICE, assumption
log 41). -/
def frameEvent (got : List Byte) : Option FrameEvent :=
  match lengthOf got with
  | none => none
  | some n =>
    if Config.maxBody < n then some .discard
    else if got.length = n + 6 then
      let covered := got.take (n + 4)
      match covered with
      | _ :: _ :: kind :: tag :: body =>
        if got.drop (n + 4) = checkBytes covered then some (.frame kind tag body) else some .discard
      | _ => some .discard
    else none

/-- A good byte arrives (R179). -/
def FrameInput.take (now : Stamp) (b : Byte) : FrameInput → FrameInput × FrameEvent
  | .hunting => if b = 0xA5 then (.receiving [] now, .none) else (.hunting, .none)
  | .receiving got _ =>
    match frameEvent (got ++ [b]) with
    | none => (.receiving (got ++ [b]) now, .none)
    | some e => (.hunting, e)

/-- A character with a bad stop bit discards a frame in reception (R179); a hunting receiver passes it over. On a
Shelf Line, whose tests R154 gives without naming stop bits, it discards the frame in the same way (DESIGN CHOICE,
assumption log 10). -/
def FrameInput.spoil : FrameInput → FrameInput × FrameEvent
  | .hunting => (.hunting, .none)
  | .receiving _ _ => (.hunting, .discard)

/-- The frame in reception has waited too long for its next byte (R154, R179). -/
def FrameInput.gapped (now : Stamp) : FrameInput → Bool
  | .hunting => false
  | .receiving _ last => gapPassed now last

/-- The frame in reception as RESTART with scope ALL leaves it: its latest byte is as old by the new clock, which is
0, as it was by the old one (R178, R179; DEDUCED, assumption log 35). -/
def FrameInput.kept (now : Stamp) : FrameInput → FrameInput
  | .hunting => .hunting
  | .receiving got last => .receiving got (last - now)

def FrameInput.char (now : Stamp) (c : LineChar) (x : FrameInput) : FrameInput × FrameEvent :=
  if c.stopOk then x.take now c.byte else x.spoil

/-! ## The reply sequence (R181, R182, R195) -/

/-- A reply to a request, not to a discarded frame. -/
def Reply.toRequest (r : Reply) : Bool := decide (r.code ≠ .frameError)

/-- A request that waits for a restart, not the place of a FRAME_ERROR. -/
def Awaiting.isRequest : Awaiting → Bool
  | .request _ => true
  | .frameError => false

/-- Requests outstanding: their replies not yet sent, and those waiting for a restart (R182). -/
def State.outstanding (s : State) : Nat :=
  countWhere Reply.toRequest s.replies + countWhere Awaiting.isRequest s.waiting

/-- The FRAME_ERROR reply (R195). -/
def frameErrorReply : Reply := ⟨0xFF, 0, .frameError, []⟩

/-- A FRAME_ERROR reply waits unsent (R181). -/
def State.errorOwed (s : State) : Bool := !(s.replies.all Reply.toRequest && s.waiting.all Awaiting.isRequest)

/-- A FRAME_ERROR reply takes its place behind every reply already owed (R181): behind the requests that wait for a
restart, which are outstanding, where there are any. -/
def State.oweError (s : State) : State :=
  match s.waiting with
  | [] => { s with replies := s.replies ++ [frameErrorReply] }
  | _ :: _ => { s with waiting := s.waiting ++ [.frameError] }

/-- A discard is answered by the one FRAME_ERROR place of the sequence (R181). -/
def State.discardFrame (s : State) : State := if s.errorOwed then s else s.oweError

/-- Kind of the reply to a request kind (R182): 0x80 added, or the byte unchanged where it is 0x80 or above. -/
def replyKind (kind : Byte) : Byte := if kind.toNat < 0x80 then kind + 0x80 else kind

/-- A reply joins the sequence. -/
def State.owe (kind tag : Byte) (a : Answer) (s : State) : State :=
  { s with replies := s.replies ++ [⟨kind, tag, a.code, a.content⟩] }

/-- A reply's frame as it is sent (R195). -/
def Reply.bytes (r : Reply) : List Byte := frameBytes r.kind r.tag (byteOf r.code.code :: r.content)

/-- The frame on CL-TX: the reply at the head of the sequence, each whole before the next begins (R182, R195). -/
def State.linkFrame (s : State) : Option (List Byte) := s.replies.head?.map Reply.bytes

end Sys2Proof.Machine
end

