-- ==== Sys2Proof/Machine/Candidates.lean ====
section
/-! DEFINITION. The Service Registry's tables as the other blocks read and release them: rank groups and
rank order (R110, R111), freeing candidates and services (R114), and what a slot lets go of (R115). -/
namespace Sys2Proof.Machine

/-- Causes of a ranking report (Table 8-4). -/
inductive RankCause where
  | scored | noLockMiss | shelfLoss | aged | replanned | restarted
  | enabled | disabled | plan | preference | erased | content | merge | freed
deriving DecidableEq, Repr

/-- A reception report of the Score Unit (R103). -/
structure ReceptionReport where
  carrier : Nat
  cause : RankCause
  stateBefore : ReceptionState
  standingBefore : Option Nat
  stateAfter : ReceptionState
  standingAfter : Option Nat
  missesAfter : Nat
deriving DecidableEq, Repr

/-- A ranking report (R111): the service, the cause, the carrier the step concerned if it names one, the reception
report where the cause came from the Score Unit, and the candidate list after the step in rank order, with the group
of each candidate. -/
structure RankReport where
  key : Nat
  cause : RankCause
  carrier : Option Nat
  reception : Option ReceptionReport
  list : List (Candidate × RankGroup)
deriving DecidableEq, Repr

/-! ## Rank order -/

/-- Rank group of a candidate (Table 8-3). -/
def State.group (s : State) (x : Candidate) : RankGroup :=
  if x.absent || x.orphan || !x.running then .c
  else match s.carrier x.name.carrier with
    | none => .c
    | some c =>
      if c.plan.enabled then
        match c.reception.state with
        | .fresh => .a
        | .stale => .b
        | .unmeasured | .lost => .c
      else .c

/-- A carrier's standing, absent when there is none. -/
def State.standing (s : State) (c : Nat) : Option Nat := (s.carrier c).bind (·.reception.standing)

/-- Preference of a carrier's feed. -/
def State.preference (s : State) (c : Nat) : Nat :=
  match s.carrier c with
  | some x => (s.feed x.plan.feed).preference
  | none => 0

/-- Pairs of keys compared in order, each deciding only when every earlier pair is equal. -/
def keysBefore : List (Nat × Nat) → Bool
  | [] => false
  | (x, y) :: r => if x < y then true else if y < x then false else keysBefore r

/-- A standing that is absent comes after every present one. -/
def absentKey (x : Option Nat) : Nat := if x.isSome then 0 else 1

/-- Candidate `x` stands before `y` in rank order: the five keys of R111. -/
def State.ranksBefore (s : State) (x y : Candidate) : Bool :=
  keysBefore
    [((s.group x).code, (s.group y).code),
     (absentKey (s.standing x.name.carrier), absentKey (s.standing y.name.carrier)),
     ((s.standing y.name.carrier).getD 0, (s.standing x.name.carrier).getD 0),
     (s.preference x.name.carrier, s.preference y.name.carrier),
     (x.name.carrier, y.name.carrier),
     (x.name.serviceId, y.name.serviceId)]

/-- Candidates in rank order (R111). -/
def State.rankOrder (s : State) (l : List Candidate) : List Candidate := sortBy s.ranksBefore l

/-- The candidate list of a service in rank order, as it stands. -/
def State.ranked (s : State) (key : Nat) : List Candidate :=
  match s.service key with
  | some v => s.rankOrder v.cands
  | none => []

/-- The ranking report of a service as it stands (R111). -/
def State.rankReport (s : State) (key : Nat) (cause : RankCause) (c : Option Nat) (r : Option ReceptionReport) :
    RankReport :=
  ⟨key, cause, c, r, (s.ranked key).map fun x => (x, s.group x)⟩

/-! ## Finding candidates -/

/-- The order in which a service record keeps its candidates. -/
def Candidate.nameBefore (x y : Candidate) : Bool :=
  keysBefore [(x.name.carrier, y.name.carrier), (x.name.serviceId, y.name.serviceId)]

def Candidate.named (n : CandName) (x : Candidate) : Bool := decide (x.name = n)

/-- A candidate of the pool, with the key of its service (R109). -/
def State.candidate? (s : State) (n : CandName) : Option (Nat × Candidate) :=
  s.services.findSome? fun e => (e.2.cands.find? (Candidate.named n)).map fun x => (e.1, x)

/-- A candidate of a given service. -/
def State.candidateOf (s : State) (key : Nat) (n : CandName) : Option Candidate :=
  (s.service key).bind fun v => v.cands.find? (Candidate.named n)

/-- Candidates in use (R127). -/
def State.poolSize (s : State) : Nat := (s.services.map fun e => e.2.cands.length).sum

/-- The services that have a candidate on a carrier, in rising order of key. -/
def State.servicesOn (s : State) (c : Nat) : List Nat :=
  (s.services.filter fun e => e.2.cands.any fun x => decide (x.name.carrier = c)).map (·.1)

/-! ## Slots that refer to a candidate -/

/-- A slot refers to a candidate: its active source or its target (R115). -/
def Slot.refers (n : CandName) (x : Slot) : Bool := decide (x.active = some n ∨ x.target = some n)

def State.referred (s : State) (n : CandName) : Bool := allSlots.any fun i => (s.slot i).refers n

/-- A slot is bound to the service. -/
def Slot.boundTo (key : Nat) (x : Slot) : Bool :=
  match x.binding with
  | some b => decide (b.key = key)
  | none => false

def State.boundSlots (s : State) (key : Nat) : List (Fin 64) :=
  allSlots.filter fun i => (s.slot i).boundTo key

/-! ## Freeing (R114, R115) -/

/-- A slot's fields that named a freed candidate are cleared (R114). -/
def Slot.forget (n : CandName) (x : Slot) : Slot :=
  { x with
    challenger := if x.challenger = some n then none else x.challenger
    wins := if x.challenger = some n then 0 else x.wins
    bar := match x.bar with
      | some b => if b.cand = n then none else some b
      | none => none
    lastTarget := if x.lastTarget = some n then none else x.lastTarget }

/-- A FOUND service with no candidates to which no slot is bound is freed (R114, R115). -/
def State.dropEmpty (key : Nat) (s : State) : State :=
  match s.service key with
  | some v =>
    if v.pair.isSome && v.cands.isEmpty && (s.boundSlots key).isEmpty then
      { s with services := Store.del s.services key }
    else s
  | none => s

/-- A candidate is freed (R114). -/
def State.freeCandidate (n : CandName) (s : State) : State :=
  match s.candidate? n with
  | none => s
  | some (key, _) =>
    match s.service key with
    | none => s
    | some v =>
      let s := s.setService key { v with cands := v.cands.filter fun x => !x.named n }
      ({ s with slots := tabMap (Slot.forget n) s.slots } : State).dropEmpty key

/-- A slot has let go of a candidate: an orphan to which no slot now refers is freed, and its service is
re-sorted and reported with cause FREED unless it was freed with it (R115). The report names the carrier of the freed
candidate (DESIGN CHOICE, assumption log 40). -/
def State.letGo (n : Option CandName) (s : State) : State × List RankReport :=
  match n with
  | none => (s, [])
  | some n =>
    match s.candidate? n with
    | none => (s, [])
    | some (key, x) =>
      if x.orphan && !s.referred n then
        let s := s.freeCandidate n
        (s, if (s.service key).isSome then [s.rankReport key .freed (some n.carrier) none] else [])
      else (s, [])

end Sys2Proof.Machine
end

