-- ==== Sys2Proof/Machine/Routes.lean ====
section
/-! DEFINITION. The Route Link's orders: building and handing over a SET or a CLEAR (R156, R157), and
sending the head of a route queue (R158). Outcomes and replies are in Shelves.lean. -/
namespace Sys2Proof.Machine

/-- Routing fields of a candidate, from its carrier's plan as it stands (R156). -/
def State.routingOf (s : State) (n : CandName) : Option Routing :=
  (s.carrier n.carrier).map fun c =>
    { feed := c.plan.feed, frequency := c.plan.frequency, setting := c.plan.setting, rate := c.plan.rate
      modulation := c.plan.modulation, serviceId := n.serviceId }

/-- A shelf in UNKNOWN or ONLINE with no order in flight sends the head of its route queue (R158). -/
def Shelf.send (x : Shelf) : Shelf :=
  match x.state, x.inFlight, x.queue with
  | .unknown, none, o :: r | .online, none, o :: r =>
    { x with queue := r, inFlight := some ⟨o, .awaitingAccept, none⟩ }
  | _, _, _ => x

def State.send (h : Fin 4) (s : State) : State := s.setShelf h (s.shelf h).send

/-- An order takes the shelf's next tag, which wraps from 255 to 0, and joins the end of its route queue;
it goes out at once where the shelf can send (R156, R157, R158). -/
def State.enqueue (h : Fin 4) (output : Fin 16) (k : OrderKind) (s : State) : State :=
  let x := s.shelf h
  (s.setShelf h
    { x with nextTag := x.nextTag + 1, queue := x.queue ++ [⟨x.nextTag, output, k, false⟩] }).send h

/-- A slot hands over a SET for a candidate (R156). -/
def State.handSet (i : Fin 64) (n : CandName) (s : State) : State :=
  match (s.slot i).binding, s.routingOf n with
  | some b, some r =>
    let x := s.shelf b.shelf
    let s := s.setSlot i { s.slot i with lastTag := some x.nextTag, lastTarget := some n }
    let s := s.setShelf b.shelf { x with lastOrdering := tabSet x.lastOrdering b.output (some i) }
    s.enqueue b.shelf b.output (.set i r)
  | _, _ => s

/-- A CLEAR order is handed over for an output (R157). -/
def State.handClear (h : Fin 4) (output : Fin 16) (s : State) : State := s.enqueue h output .clear

/-- A slot gives a route order (R134). -/
def State.giveOrder (i : Fin 64) (n : CandName) (r : OrderReason) (s : State) : State :=
  (s.setSlot i
    { s.slot i with
      target := some n
      lastReason := some r
      challenger := none
      wins := 0
      state := .switching }).handSet i n

def Order.clears (output : Fin 16) (o : Order) : Bool := decide (o.kind = .clear ∧ o.output = output)

/-- A CLEAR for the output is queued or in flight (R147, R157). -/
def State.clearing (h : Fin 4) (output : Fin 16) (s : State) : Bool :=
  let x := s.shelf h
  x.queue.any (Order.clears output)
    || (match x.inFlight with
        | some f => f.order.clears output
        | none => false)

/-- The slot bound to a shelf output. -/
def Slot.onOutput (h : Fin 4) (output : Fin 16) (x : Slot) : Bool :=
  match x.binding with
  | some b => decide (b.shelf = h ∧ b.output = output)
  | none => false

def State.slotOn (h : Fin 4) (output : Fin 16) (s : State) : Option (Fin 64) :=
  allSlots.find? fun i => (s.slot i).onOutput h output

/-- An output is taken for slot `i`: another slot is bound to it, or a CLEAR for it has not ended (R147). -/
def State.outputTaken (i : Fin 64) (h : Fin 4) (output : Fin 16) (s : State) : Bool :=
  (allSlots.any fun j => decide (j ≠ i) && (s.slot j).onOutput h output) || s.clearing h output

/-! ## Frames sent on a Shelf Line (R197) -/

/-- Band and polarisation bytes of a setting, 0xFF when absent. -/
def settingBytes (x : Option Setting) : List Byte :=
  match x with
  | some x => [byteOf x.band.code, byteOf x.pol.code]
  | none => [0xFF, 0xFF]

/-- Kind byte and body of the frame that carries an order (Table 13-10). -/
def Order.frameKind (o : Order) : Byte :=
  match o.kind with
  | .set _ _ => 0x01
  | .clear => 0x02

def Order.frameBody (o : Order) : List Byte :=
  match o.kind with
  | .set _ r =>
    byteOf o.output.1 :: byteOf r.feed.1 :: le32 r.frequency ++ settingBytes r.setting ++ le16 r.rate
      ++ [byteOf r.modulation.code] ++ le16 r.serviceId
  | .clear => [byteOf o.output.1]

/-- The frame that carries an order: the layout of Table 13-1 with the order's tag (R197). -/
def Order.frame (o : Order) : List Byte := frameBytes o.frameKind o.tag o.frameBody

/-- The frame of the order in flight has not all been sent: its accept timer is still to start (R158). An ACCEPT taken before
ORDER_SENT ends the sending at once, so that the ORDER_SENT after it finds nothing (DESIGN CHOICE, assumption log 47). -/
def Flight.onLine (f : Flight) : Bool := decide (f.stage = .awaitingAccept ∧ f.timerEnd = none)

/-- The frame on a Shelf Line: the order in flight whose frame has not all been sent (R158, R197). The frame of an order that
leaves flight, or is accepted, while it is being written is dropped at once, and the next ORDER_SENT counts for the order
then in flight (DESIGN CHOICE, assumption log 47). -/
def State.shelfLine (s : State) (h : Fin 4) : Option (List Byte) :=
  (s.shelf h).inFlight.bind fun f => if f.onLine then some f.order.frame else none

end Sys2Proof.Machine
end

