-- ==== Sys2Proof/Machine/Feeds.lean ====
section
/-! DEFINITION. The Input Matrix: attaching, tune starts and their spacing, the setting of a satellite
feed, the waiting lists, and supply faults (R18 to R28). -/
namespace Sys2Proof.Machine

/-- The settle time for a feed kind (R36). A feed of kind NONE holds no carrier (R2), so its line is
never read (DESIGN CHOICE, assumption log 31). -/
def Params.settle (P : Params) : FeedKind → Nat
  | .terrestrial | .noKind => P.settleTerrestrial
  | .cable => P.settleCable
  | .satellite => P.settleSatellite

/-- The setting a carrier needs, absent when it needs none (section 3.3). -/
def State.needs (s : State) (c : Option Nat) : Option Setting :=
  match c with
  | some c => (s.carrier c).bind (·.plan.setting)
  | none => none

/-- A path's setting question is passed: it needs no setting, or the feed's current one. -/
def State.settingOk (s : State) (f : Fin 6) (need : Option Setting) : Bool :=
  match need with
  | none => true
  | some x => decide ((s.feed f).setting = some x)

/-- What a waiting or attached path needs. -/
def State.pathNeeds (s : State) (p : Fin 8) : Option Setting := s.needs (s.path p).tuned

/-- A tune starts now (R36). -/
def State.startTune (p : Fin 8) (f : Fin 6) (s : State) : State :=
  s.setPath p
    { s.path p with
      state := .settling
      tuneDue := none
      tuneStart := some s.clock
      earliestDetach := some (s.clock + ms s.params.minOccupancy)
      settleEnd := some (s.clock + ms (s.params.settle (s.feed f).kind)) }

/-- When the tune start of a path that attaches now falls (R21). -/
def State.tuneStartAt (f : Fin 6) (s : State) : Stamp :=
  match (s.feed f).lastTuneStart with
  | none => s.clock
  | some t => laterOf s.clock (t + ms s.params.tuneSpacing)

/-- The path attaches: it holds a tap, the feed records the tune start it is granted, and the tune
starts at once or is held by tune spacing (R21). -/
def State.grant (p : Fin 8) (f : Fin 6) (s : State) : State :=
  let t := s.tuneStartAt f
  let s := s.setFeed f { s.feed f with lastTuneStart := some t }
  let s := s.setPath p { s.path p with tap := some f, state := .waitFeed, tuneDue := some t }
  if t = s.clock then s.startTune p f else s

/-- The feed enters SETTING under a new current setting (R20). -/
def State.changeSetting (f : Fin 6) (need : Option Setting) (s : State) : State :=
  s.setFeed f
    { s.feed f with
      state := .setting
      setting := need
      settleEnd := some (s.clock + ms s.params.feedSettle) }

def State.setWaiting (f : Fin 6) (w : List (Fin 8)) (s : State) : State :=
  s.setFeed f { s.feed f with waiting := w }

/-- Serving the waiting list from its head (R22): heads that need the current setting attach while a tap
is free; a head that needs another setting stops the service, and takes the setting when no path is
attached. -/
def State.serveFrom (f : Fin 6) : List (Fin 8) → State → State
  | [], s => s
  | p :: r, s =>
    if s.settingOk f (s.pathNeeds p) then
      if s.users f < Config.taps then State.serveFrom f r ((s.setWaiting f r).grant p f) else s
    else if s.users f = 0 then s.changeSetting f (s.pathNeeds p)
    else s

/-- The feed serves its waiting list, provided it is ON (R22). -/
def State.serve (f : Fin 6) (s : State) : State :=
  match (s.feed f).state with
  | .on => s.serveFrom f (s.feed f).waiting
  | _ => s

/-- The single scan at the end of a setting settle (R20): every waiting path that needs the current
setting attaches, in arrival order, while a tap is free; the others keep their places. -/
def State.scanFrom (f : Fin 6) : List (Fin 8) → State → State
  | [], s => s
  | p :: r, s =>
    if s.settingOk f (s.pathNeeds p) && s.users f < Config.taps then
      State.scanFrom f r ((s.setWaiting f ((s.feed f).waiting.filter fun q => decide (q ≠ p))).grant p f)
    else State.scanFrom f r s

/-- The scan, and the change at once to the head's setting when no path has attached (R20). -/
def State.scan (f : Fin 6) (s : State) : State :=
  let s := s.scanFrom f (s.feed f).waiting
  match (s.feed f).waiting with
  | [] => s
  | p :: _ =>
    if s.users f = 0 && !s.settingOk f (s.pathNeeds p) then s.changeSetting f (s.pathNeeds p) else s

/-- A path that is recorded as tuning asks its feed to attach (R18): it attaches, or it joins the end of
the waiting list; alone on a feed ON without users it brings the feed to its setting (R20). The caller
has dealt with a feed that is OFF. -/
def State.attach (p : Fin 8) (f : Fin 6) (s : State) : State :=
  let need := s.pathNeeds p
  let x := s.feed f
  match x.state, x.waiting with
  | .on, [] =>
    if s.settingOk f need then
      if s.users f < Config.taps then s.grant p f else s.setWaiting f [p]
    else if s.users f = 0 then (s.setWaiting f [p]).changeSetting f need
    else s.setWaiting f [p]
  | _, w => s.setWaiting f (w ++ [p])

/-- A probe's attach would be refused FEED_BUSY (R19). -/
def State.probeRefused (f : Fin 6) (need : Option Setting) (s : State) : Bool :=
  let x := s.feed f
  match x.state, x.waiting with
  | .on, [] =>
    decide (Config.taps ≤ s.users f) || (decide (0 < s.users f) && !s.settingOk f need)
  | _, _ => true

/-- A path leaves a waiting list without attaching (R23). -/
def State.leaveWaiting (p : Fin 8) (f : Fin 6) (s : State) : State :=
  let wasHead := decide ((s.feed f).waiting.head? = some p)
  let s := s.setWaiting f ((s.feed f).waiting.filter fun q => decide (q ≠ p))
  if wasHead then s.serve f else s

/-- The feed in whose waiting list the path stands. -/
def State.waitingOn (p : Fin 8) (s : State) : Option (Fin 6) :=
  allFeeds.find? fun f => (s.feed f).waiting.contains p

/-- Blocks on the feed are reported unlocked and no path on it locks (R24). -/
def Feed.dead (x : Feed) : Bool :=
  match x.state with
  | .fault | .retry | .off => true
  | .on | .setting => false

/-- The path's feed gives it no signal (R24). -/
def State.tapDead (p : Fin 8) (s : State) : Bool :=
  match (s.path p).tap with
  | some f => (s.feed f).dead
  | none => true

/-- The feed senses overcurrent: its supply is on (section 3.6). -/
def Feed.supplied (x : Feed) : Bool :=
  x.supply && match x.state with
    | .on | .setting | .retry => true
    | .off | .fault => false

/-- An overcurrent event below a fault count of 3 puts the feed in FAULT (R25, R26). -/
def State.feedFault (f : Fin 6) (s : State) : State :=
  let x := s.feed f
  let s := s.setFeed f
    { x with
      state := .fault
      faultCount := x.faultCount + 1
      settleEnd := none
      clearEnd := none
      retryEnd := some (s.clock + ms Config.retryMs) }
  s.post .feedFault f.1 [byteOf (x.faultCount + 1)]

/-- The fall to OFF on an overcurrent event at a fault count of 3 (R27), but for the waiting paths. -/
def State.feedFall (f : Fin 6) (s : State) : State :=
  let s := s.setFeed f
    { s.feed f with state := .off, settleEnd := none, clearEnd := none, retryEnd := none, waiting := [] }
  s.post .feedOff f.1 []

end Sys2Proof.Machine
end

