-- ==== Sys2Proof/Machine/Lists.lean ====
section
/-! DEFINITION. What the Sweep Engine does to a list record when a result reaches it, when a list is
suspended or resumed, and when an entry skips (R75, R77, R78, R91). None of it drives a path. -/
namespace Sys2Proof.Machine

/-- The measurement the engine builds from an entry (R76). -/
def SweepEntry.meas (e : SweepEntry) : Meas where
  cls := e.cls
  window := e.window
  leadIn := e.leadIn
  release := e.release
  requester := .list

/-- A rest of `n` ticks begins now (R77, R78, R81). A SUSPENDED list keeps it for its resume. -/
def SweepList.startRest (n : Nat) (now : Stamp) (l : SweepList) : SweepList :=
  let l := { l with rest := n, restBegan := some now, stage := .notBegun, current := none, direct := false }
  match l.state with
  | .suspended => { l with resume := some .resting }
  | _ => { l with state := .resting }

/-- The entry at hand skips, with the rest that applies (R77). -/
def State.skipEntry (n : Fin 8) (rest : Nat) (s : State) : State :=
  s.setSweep n ((s.sweep n).startRest rest s.clock)

/-- Detail of LIST_MARK (Table 13-11). -/
def listMarkDetail (n : Fin 8) (c pass : Nat) (o : MeasOutcome) : List Byte :=
  [byteOf n.1, byteOf c, byteOf pass, byteOf o.code]

/-- A result for the entry in flight reaches the engine (R78). -/
def State.entryResult (n : Fin 8) (o : MeasOutcome) (s : State) : State :=
  let l := s.sweep n
  match l.stage, l.current with
  | .inFlight, some e =>
    match o with
    | .aborted => s.setSweep n { l with stage := .notBegun, current := none }
    | _ =>
      let s :=
        if e.entry.note then s.post .listMark e.index (listMarkDetail n e.entry.carrier l.pass o) else s
      s.setSweep n (({ l with allSkipped := false } : SweepList).startRest e.entry.rest s.clock)
  | _, _ => s

/-- A loan ends (R91). Where the rest is over, whether the list has advanced since or its REST_END is still to come
(assumption log 16), the list begins its entry without offering its path before it. -/
def State.endLoan (n : Fin 8) (s : State) : State :=
  let l := s.sweep n
  s.setSweep n { l with loan := none, direct := decide (l.state = .running ∨ l.state = .resting ∧ l.rest = 0) }

/-- A result for a recheck on the path reaches the engine and ends the loan, whatever its outcome (R90). -/
def State.loanResult (n : Fin 8) (s : State) : State :=
  match (s.sweep n).loan with
  | some _ => s.endLoan n
  | none => s

/-- A RUNNING or RESTING list becomes SUSPENDED (R74, R75). An entry begun and not issued is unbegun. -/
def SweepList.suspend (l : SweepList) : SweepList :=
  let unbegun : SweepList :=
    match l.stage with
    | .begun => { l with stage := .notBegun, current := none, direct := false }
    | _ => { l with direct := false }
  match l.state with
  | .running => { unbegun with state := .suspended, resume := some .running }
  | .resting => { unbegun with state := .suspended, resume := some .resting }
  | _ => l

/-- A SUSPENDED list returns to its resume state (R74, R75). A rest counts again from the first tick
boundary after this moment (R81); that a boundary at the very clock reading of the return is not counted,
though it is taken after it, is a DESIGN CHOICE (assumption log 46). -/
def SweepList.unsuspend (now : Stamp) (l : SweepList) : SweepList :=
  match l.state, l.resume with
  | .suspended, some .running => { l with state := .running, resume := none }
  | .suspended, some .resting => { l with state := .resting, resume := none, restBegan := some now }
  | _, _ => l

/-- The path leaves its list (R32, R75): the list is suspended, and a loan whose TUNE was still to be
issued ends, since no result will end it (DEDUCED, assumption log 15). -/
def State.leaveList (n : Fin 8) (s : State) : State :=
  let l := (s.sweep n).suspend
  s.setSweep n
    (match l.loan with
     | some k => if k.issued then l else { l with loan := none }
     | none => l)

/-- The engine is told that the path is in LIST mode (R33, R75). -/
def State.joinList (n : Fin 8) (s : State) : State :=
  match s.survey with
  | .running => s.setSweep n ((s.sweep n).unsuspend s.clock)
  | _ => s

/-- A list set IDLE at first, its progress cleared (R74, entry to STOPPING). A list without a descriptor is
IDLE already. -/
def SweepList.cleared (l : SweepList) : SweepList :=
  { l with
    state := .idle
    position := match l.descriptor with
      | some d => d.first
      | none => l.position
    pass := 1
    rest := 0
    stage := .notBegun
    seek := none
    loan := none
    resume := none
    doneReason := none
    current := none
    restBegan := none
    direct := false }

/-- A mode takes effect on a PARKED path, and the engine is told (R33). -/
def State.setMode (p : Fin 8) (m : PathMode) (s : State) : State :=
  let s := s.setPath p { s.path p with mode := m, pendingMode := none }
  match m with
  | .list => s.joinList p
  | _ => s.leaveList p

end Sys2Proof.Machine
end

