-- ==== Sys2Proof/Machine/Paths.lean ====
section
/-! DEFINITION. The receive paths: result records and their delivery (R49, R60, R61), windows (R39 to R42,
R56 to R59), tuning (R34, R38, R48), releasing (R43 to R48), and the gathering of announcements (R62 to
R65). The engine's answers to what a path reports are in Sweep.lean. -/
namespace Sys2Proof.Machine

/-- A result of the path is outstanding (Table 4-1). -/
def Path.resultOutstanding (x : Path) : Bool := !x.outbox.isEmpty

/-! ## Result records -/

/-- The programmed window of a record: absent for CONTENT (Table 5-2). -/
def Meas.programmed (m : Meas) : Option Nat :=
  match m.cls with
  | .content => none
  | _ => some m.window

/-- The record of a measurement, or of a tune without one, that ended without a window (R61). -/
def neverRan (p : Fin 8) (c : Nat) (m : Option Meas) (q : Requester) (o : MeasOutcome) (t : Stamp) : Result where
  path := p
  carrier := c
  cls := m.map (·.cls)
  requester := q
  programmed := m.bind Meas.programmed
  counted := 0
  outcome := o
  locked := 0
  levelSum := 0
  levelAvg := none
  merSum := 0
  erroredSum := 0
  observation := none
  announcement := none
  stamp := t

/-- The record of a window (R60, Table 5-3). -/
def Window.result (w : Window) (p : Fin 8) (c : Nat) (o : MeasOutcome) (a : Option Announcement) (t : Stamp) :
    Result where
  path := p
  carrier := c
  cls := some w.meas.cls
  requester := w.meas.requester
  programmed := w.meas.programmed
  counted := w.counted
  outcome := o
  locked := w.locked
  levelSum := w.levelSum
  levelAvg := if w.counted = 0 then none else some (w.levelSum / w.counted)
  merSum := w.merSum
  erroredSum := w.erroredSum
  observation := w.observation
  announcement := a
  stamp := t

/-- The MER average a PROBE_RESULT carries: 0 unless the class is QUALITY and k is 1 or more (R68). -/
def Result.probeMer (r : Result) : Nat :=
  if r.cls = some .quality ∧ 0 < r.locked then r.merSum / r.locked else 0

/-- Detail of PROBE_RESULT (Table 13-11). -/
def Result.probeDetail (r : Result) : List Byte :=
  [byteOf r.carrier, byteOr (r.cls.map (·.code)), byteOf r.outcome.code, byteOr r.programmed,
    byteOf r.counted, byteOf r.locked, byteOr r.levelAvg] ++ le16 r.erroredSum ++ le16 r.probeMer

/-- The requester of a result takes it (R49): the Sweep Engine, or the Control Link by a notice. -/
def State.toRequester (r : Result) (s : State) : State :=
  match r.requester with
  | .probe => s.post .probeResult r.path.1 r.probeDetail
  | .list => s.entryResult r.path r.outcome
  | .recheck => s.loanResult r.path

/-- A result that goes to the block of its class waits for it (R49): any outcome but ABORTED, with a class. -/
def Result.toBlock (r : Result) : Bool := r.cls.isSome && decide (r.outcome ≠ .aborted)

/-- A path hands over a result (R49). Whether it is applied is decided now (R9). -/
def State.deliver (r : Result) (s : State) : State :=
  let s := s.toRequester r
  if r.toBlock then
    s.setPath r.path
      { s.path r.path with outbox := (s.path r.path).outbox ++ [⟨r, s.enabled r.carrier⟩] }
  else s

/-- A measurement that has not started, on the given carrier, ends (R61). -/
def State.endUnstarted (p : Fin 8) (c : Option Nat) (m : Option Meas) (o : MeasOutcome) (s : State) : State :=
  match c, m with
  | some c, some m => s.deliver (neverRan p c (some m) m.requester o s.clock)
  | _, _ => s

/-- A tune fails with NO_LOCK before any block (R34, R38): its measurement ends NO_LOCK, or the outcome
goes to the tune's requester alone. -/
def State.tuneFails (p : Fin 8) (c : Nat) (q : Requester) (m : Option Meas) (s : State) : State :=
  match m with
  | some m => s.deliver (neverRan p c (some m) m.requester .noLock s.clock)
  | none => s.deliver (neverRan p c none q .noLock s.clock)

/-! ## Parking, releasing and detaching -/

/-- The path enters PARKED and a pending mode takes effect (R33, R48). -/
def State.enterParked (p : Fin 8) (s : State) : State :=
  let s := s.setPath p
    { s.path p with
      state := .parked, tuned := none, tuneRequester := none, posted := none, window := none
      held := none, heldTune := none, tap := none, tuneDue := none, settleEnd := none, lockEnd := none
      blockEnd := none, contentEnd := none, recoveryEnd := none, earliestDetach := none }
  match (s.path p).pendingMode with
  | some m => s.setMode p m
  | none => s

/-- The path record as it enters RECOVERING (R47, R48). -/
def Path.recover (now : Stamp) (recovery : Nat) (x : Path) : Path :=
  { x with
    state := .recovering, tuned := none, tuneRequester := none, posted := none, window := none
    held := none, tap := none, tuneDue := none, settleEnd := none, lockEnd := none, blockEnd := none
    contentEnd := none, earliestDetach := none
    releaseTime := some now, recoveryEnd := some (now + ms recovery) }

/-- The path detaches and enters RECOVERING, and its feed serves its waiting list (R22, R47). -/
def State.detach (p : Fin 8) (s : State) : State :=
  let tap := (s.path p).tap
  let s := s.setPath p ((s.path p).recover s.clock s.params.releaseRecovery)
  match tap with
  | some f => s.serve f
  | none => s

/-- A RELEASING path detaches once its earliest detach has passed and its last result has been taken (R47). -/
def State.tryDetach (p : Fin 8) (s : State) : State :=
  let x := s.path p
  match x.state with
  | .releasing =>
    if hasPassed s.clock x.earliestDetach && !x.resultOutstanding then s.detach p else s
  | _ => s

/-- The path enters RELEASING, and detaches at once where nothing holds it (R47). -/
def State.startRelease (p : Fin 8) (s : State) : State :=
  (s.setPath p
    { s.path p with
      state := .releasing, posted := none, window := none, held := none, settleEnd := none, lockEnd := none
      blockEnd := none, contentEnd := none }).tryDetach p

/-- A path takes RELEASE (R43 to R46). -/
def State.takeRelease (p : Fin 8) (s : State) : State :=
  let x := s.path p
  match x.state with
  | .parked | .releasing => s
  | .recovering =>
    match x.heldTune with
    | some t =>
      (s.setPath p { x with heldTune := none }).endUnstarted p (some t.carrier) t.meas .aborted
    | none => s
  | .waitFeed =>
    let s :=
      match x.tap, s.waitingOn p with
      | some _, _ => s.detach p
      | none, some f => (s.leaveWaiting p f).detach p
      | none, none => s.detach p
    s.endUnstarted p x.tuned x.posted .aborted
  | .settling | .locking =>
    (s.endUnstarted p x.tuned x.posted .aborted).startRelease p
  | .locked => s.startRelease p
  | .measuring =>
    let s :=
      match x.tuned, x.window with
      | some c, some w => s.deliver (w.result p c .aborted none s.clock)
      | _, _ => s
    (s.endUnstarted p x.tuned x.held .aborted).startRelease p

/-! ## Windows -/

/-- A window starts at `base`, with `lead` lead-in blocks (R39, R41, R42, R54, R56). A CONTENT read
without lead-in begins its gathering, and its content timeout, at once (R62). -/
def State.startWindow (p : Fin 8) (m : Meas) (lead : Nat) (base : Stamp) (s : State) : State :=
  let gathers := decide (m.cls = .content ∧ lead = 0)
  s.setPath p
    { s.path p with
      state := .measuring
      posted := none
      held := none
      window := some
        { meas := m, lead := lead, leadDone := 0, counted := 0, locked := 0, levelSum := 0, merSum := 0
          erroredSum := 0, observation := none
          gathering := if gathers then some ⟨none, []⟩ else none, cut := false }
      blockEnd := some (base + ms Config.blockMs)
      contentEnd := if gathers then some (base + ms s.params.contentTimeout) else none }

/-- Why a path refuses a MEASURE (R39, R40). -/
def Path.measureRefusal (x : Path) : Option ResultCode :=
  match x.state with
  | .waitFeed | .settling | .locking => if x.posted.isSome then some .busy else none
  | .locked => none
  | .measuring =>
    match x.window with
    | some w =>
      if w.meas.release then some .notTuned
      else if x.held.isSome then some .busy
      else none
    | none => some .busy
  | .parked | .recovering | .releasing => some .notTuned

/-- A MEASURE makes the half-point cut of the running window (R40, R41). -/
def Window.cutBy (w : Window) (m : Meas) : Bool :=
  decide (m.cls = w.meas.cls ∧ w.meas.cls ≠ .content ∧ w.meas.window = 8 ∧ w.meas.release = false ∧ w.counted < 4)

/-- A path takes a MEASURE that it does not refuse (R39 to R41). -/
def State.takeMeasure (p : Fin 8) (m : Meas) (s : State) : State :=
  let x := s.path p
  match x.state with
  | .waitFeed | .settling | .locking => s.setPath p { x with posted := some m }
  | .locked => s.startWindow p m m.leadIn s.clock
  | .measuring =>
    match x.window with
    | some w => s.setPath p { x with held := some m, window := some { w with cut := w.cutBy m } }
    | none => s
  | .parked | .recovering | .releasing => s

/-- The running window ends: its result is handed over, and the held measure starts at `base`, or the
path leaves the carrier, or keeps it open (R42). -/
def State.endWindow (p : Fin 8) (o : MeasOutcome) (a : Option Announcement) (base : Stamp) (s : State) : State :=
  match (s.path p).tuned, (s.path p).window with
  | some c, some w =>
    let s := s.deliver (w.result p c o a s.clock)
    match (s.path p).held with
    | some m => s.startWindow p m 0 base
    | none =>
      if w.meas.release then s.startRelease p
      else s.setPath p { s.path p with state := .locked, window := none, blockEnd := none, contentEnd := none }
  | _, _ => s

/-- The half-point cut at the end of block 4 (R41): the stay on the carrier is not shortened. -/
def State.cutWindow (p : Fin 8) (o : MeasOutcome) (base : Stamp) (s : State) : State :=
  let s := s.endWindow p o none base
  let uncut := base + ms (4 * Config.blockMs)
  let until' := match (s.path p).earliestDetach with
    | some e => laterOf e uncut
    | none => uncut
  s.setPath p { s.path p with earliestDetach := some until' }

/-- A block sample as the demodulator hands it to a path (R24, R55): the level clamped into 0–240, and,
when lock held and the feed is alive, the MER clamped into 0–400, the errored packets saturated at 65535
and the last version seen. -/
structure PathSample where
  locked : Bool
  level : Nat
  mer : Nat
  errored : Nat
  seen : Option Nat
deriving DecidableEq, Repr

def BlockSample.read (b : BlockSample) (dead : Bool) : PathSample :=
  if b.locked && !dead then
    ⟨true, min 240 b.level, min 400 b.mer, min 65535 b.errored, b.versions.getLast?.map (·.toNat)⟩
  else ⟨false, min 240 b.level, 0, 0, none⟩

/-- A counted block is taken into the running sums (R57, R58, R62). -/
def Window.count (w : Window) (b : PathSample) : Window :=
  let w := { w with
    counted := w.counted + 1
    locked := if b.locked then w.locked + 1 else w.locked
    levelSum := w.levelSum + b.level }
  match w.meas.cls with
  | .quality =>
    { w with
      merSum := w.merSum + b.mer
      erroredSum := min 65535 (w.erroredSum + b.errored)
      observation := match b.seen with
        | some v => some v
        | none => w.observation }
  | _ => w

/-- Outcome of a QUALITY or LEVEL window by its locked blocks (R59). -/
def Window.outcome (w : Window) (whole : MeasOutcome) : MeasOutcome :=
  if w.locked = 0 then .noLock else whole

/-- A lead-in block ends (R56); the last one begins the gathering of a CONTENT read (R62). -/
def State.endLeadIn (p : Fin 8) (w : Window) (base : Stamp) (s : State) : State :=
  let w := { w with leadDone := w.leadDone + 1 }
  let x := { s.path p with blockEnd := some (base + ms Config.blockMs) }
  if w.meas.cls = .content ∧ w.leadDone = w.lead then
    s.setPath p
      { x with
        window := some { w with gathering := some ⟨none, []⟩ }
        contentEnd := some (base + ms s.params.contentTimeout) }
  else s.setPath p { x with window := some w }

/-- A counted block ends (R41, R42, R57 to R59, R62). -/
def State.endCounted (p : Fin 8) (w : Window) (b : PathSample) (base : Stamp) (s : State) : State :=
  let w := w.count b
  let s := s.setPath p { s.path p with window := some w, blockEnd := some (base + ms Config.blockMs) }
  match w.meas.cls with
  | .content => s
  | _ =>
    if w.cut && decide (w.counted = 4) then s.cutWindow p (w.outcome .partialWindow) base
    else if w.counted = w.meas.window then s.endWindow p (w.outcome .complete) none base
    else s

/-! ## Announcements -/

/-- A section taken against the gathering record (R63). -/
def Gathering.take (g : Gathering) (sec : AnnouncementSection) : Gathering :=
  let hd : GatheringHead :=
    ⟨⟨sec.network.toNat, sec.stream.toNat⟩, sec.version.toNat, sec.last.toNat⟩
  let here : HeldSection := ⟨sec.number.toNat, sec.entries⟩
  if sec.last.toNat < sec.number.toNat then g
  else if g.head ≠ some hd then ⟨some hd, [here]⟩
  else if g.sections.any (fun h => decide (h.number = here.number)) then g
  else { g with sections := g.sections ++ [here] }

/-- The held section with a number. -/
def Gathering.section? (g : Gathering) (n : Nat) : Option HeldSection :=
  g.sections.find? fun h => decide (h.number = n)

/-- Sections 0 up to the last section are all held (R63). -/
def Gathering.complete (g : Gathering) : Bool :=
  match g.head with
  | none => false
  | some h => (List.range (h.last + 1)).all fun n => (g.section? n).isSome

/-- A sent entry as the announcement keeps it, or passed over for its service id or kind (R64, R65). -/
def SentEntry.kept (e : SentEntry) : Option Announced :=
  if e.serviceId = 0 then none
  else match ServiceKind.announced e.kind.toNat with
    | none => none
    | some k => some ⟨e.serviceId.toNat, k, e.scrambled, e.running, e.name.take Config.nameLength⟩

/-- Entries in order, each service id once, by its first occurrence (R64). -/
def firstOfEach : List Announced → List Announced → List Announced
  | acc, [] => acc
  | acc, e :: r =>
    if acc.any (fun x => decide (x.serviceId = e.serviceId)) then firstOfEach acc r
    else firstOfEach (acc ++ [e]) r

/-- The announcement built from the held sections (R64), and whether it was truncated. -/
def Gathering.announcement (g : Gathering) : Option Announcement :=
  match g.head with
  | none => none
  | some h =>
    let sent := ((List.range (h.last + 1)).filterMap g.section?).flatMap (·.entries)
    let all := firstOfEach [] (sent.filterMap SentEntry.kept)
    some
      { identity := h.identity
        version := h.version
        truncated := decide (Config.announced < all.length)
        entries := all.take Config.announced }

/-! ## Tuning -/

/-- A path that is PARKED takes TUNE (R34). A carrier that is not in use, which the rules exclude, ends the tune as a feed
that is OFF does (DESIGN CHOICE, assumption log 42). -/
def State.takeTune (p : Fin 8) (c : Nat) (q : Requester) (m : Option Meas) (s : State) : State :=
  match s.carrier c with
  | none => (s.tuneFails p c q m).enterParked p
  | some x =>
    match (s.feed x.plan.feed).state with
    | .off => (s.tuneFails p c q m).enterParked p
    | _ =>
      (s.setPath p
        { s.path p with
          state := .waitFeed, tuned := some c, tuneRequester := some q, posted := m }).attach p x.plan.feed

/-- A path in RECOVERING takes TUNE as its held tune (R35). -/
def State.holdTune (p : Fin 8) (c : Nat) (q : Requester) (m : Option Meas) (s : State) : State :=
  s.setPath p { s.path p with heldTune := some ⟨c, q, m⟩ }

/-- The path takes TUNE, at once or as a held tune (R34, R35). -/
def Path.canTune (x : Path) : Bool :=
  match x.state with
  | .parked => true
  | .recovering => x.heldTune.isNone
  | _ => false

/-- TUNE for a path that can take it. -/
def State.tune (p : Fin 8) (c : Nat) (q : Requester) (m : Option Meas) (s : State) : State :=
  match (s.path p).state with
  | .recovering => s.holdTune p c q m
  | _ => s.takeTune p c q m

/-- The feed would refuse a probe's attach for carrier `c` FEED_BUSY (R19). A carrier that is not in use has no feed to ask
(DESIGN CHOICE, assumption log 42). -/
def State.probeBlocked (c : Nat) (s : State) : Bool :=
  match s.carrier c with
  | some x => s.probeRefused x.plan.feed (s.needs (some c))
  | none => true

/-- Recovery ends with a held tune (R48). A held probe tune that its feed would refuse, and that carries a measurement, makes
the measurement's record alone (DESIGN CHOICE, assumption log 45). -/
def State.startHeldTune (p : Fin 8) (t : HeldTune) (s : State) : State :=
  let s := s.setPath p { s.path p with state := .parked, heldTune := none, recoveryEnd := none }
  if t.requester = .probe ∧ s.probeBlocked t.carrier then
    (s.tuneFails p t.carrier t.requester t.meas).enterParked p
  else s.takeTune p t.carrier t.requester t.meas

/-- A waiting path is cut off by its feed falling to OFF (R27, R34). A tune with a posted measure makes one NO_LOCK record,
the measure's: that a probe's tune makes none of its own beside it is a DESIGN CHOICE (assumption log 45). -/
def State.cutOff (p : Fin 8) (s : State) : State :=
  let x := s.path p
  match x.tuned, x.tuneRequester with
  | some c, some q => (s.tuneFails p c q x.posted).enterParked p
  | _, _ => s.enterParked p

/-- The path acquires lock (R37): a posted measure starts, or its carrier is open. -/
def State.lock (p : Fin 8) (s : State) : State :=
  let x := s.path p
  let s := s.setPath p { x with state := .locked, lockEnd := none }
  match x.posted with
  | some m => s.startWindow p m m.leadIn s.clock
  | none => s

/-- The lock timeout ends in LOCKING (R38). -/
def State.lockFails (p : Fin 8) (s : State) : State :=
  let x := s.path p
  let s := s.setPath p { x with posted := none, lockEnd := none }
  let s :=
    match x.tuned, x.tuneRequester with
    | some c, some q => s.tuneFails p c q x.posted
    | _, _ => s
  s.startRelease p

end Sys2Proof.Machine
end

