-- ==== Sys2Proof/Machine/Sweep.lean ====
section
/-! DEFINITION. The Sweep Engine at work: beginning entries (R76, R77), lending paths to rechecks (R83 to
R91), the end of a rest (R79), the survey states (R169 to R175) and the tick (R80, R81).

Everything the engine does "at once" is done by `State.runEngine`, which every step that moves a path, a
list or the queue calls last: it takes the engine's next action while there is one (`State.engineAct`). -/
namespace Sys2Proof.Machine

/-! ## Driving a path (Table 6-4) -/

/-- The engine sends requests to the path: LIST mode, no pending mode (R31). -/
def State.driven (p : Fin 8) (s : State) : Bool :=
  decide ((s.path p).mode = .list ∧ (s.path p).pendingMode = none)

/-- The path is LOCKED on the carrier as its open carrier. -/
def Path.lockedOn (x : Path) (c : Nat) : Bool := decide (x.state = .locked ∧ x.tuned = some c)

/-- What the engine issues when an entry or a recheck begins, by the path's state (Table 6-4). -/
inductive Drive where
  | tune | measure | releaseFirst | wait
deriving DecidableEq, Repr

def Path.drive (x : Path) (c : Nat) : Drive :=
  if x.canTune then .tune
  else if x.lockedOn c then .measure
  else if x.state = .locked then .releaseFirst
  else .wait

/-- The request has gone to the path with the entry or recheck, rather than waiting for RECOVERING or
PARKED. -/
def Drive.issued : Drive → Bool
  | .tune | .measure => true
  | .releaseFirst | .wait => false

def State.driveAs (d : Drive) (p : Fin 8) (c : Nat) (m : Meas) (s : State) : State :=
  match d with
  | .tune => s.tune p c m.requester (some m)
  | .measure => s.takeMeasure p m
  | .releaseFirst => s.takeRelease p
  | .wait => s

/-! ## Entries -/

/-- The engine begins the entry at the list's position (R76), or it skips (R77). -/
def State.beginEntry (n : Fin 8) (s : State) : State :=
  let l := s.sweep n
  match Store.find s.planMemory l.position with
  | none => s.skipEntry n 0
  | some e =>
    if s.enabled e.carrier then
      let d := (s.path n).drive e.carrier
      let stage : EntryStage := if d.issued then .inFlight else .begun
      (s.setSweep n { l with stage := stage, current := some ⟨l.position, e⟩, direct := false }).driveAs d n
        e.carrier e.meas
    else s.skipEntry n e.rest

/-- A list is about to begin an entry: RUNNING, no entry begun or in flight, no loan on its path. -/
def SweepList.aboutToBegin (l : SweepList) : Bool :=
  decide (l.state = .running ∧ l.stage = .notBegun) && l.loan.isNone

/-- The entry's TUNE, put off until the path reported RECOVERING or PARKED, is due (R76). -/
def State.entryDue (n : Fin 8) (s : State) : Bool :=
  let l := s.sweep n
  decide (l.state = .running ∧ l.stage = .begun) && s.driven n && (s.path n).canTune

/-- That TUNE is issued, or the entry skips because its carrier index has become unused (R76). -/
def State.issueEntry (n : Fin 8) (s : State) : State :=
  let l := s.sweep n
  match l.current with
  | none => s.setSweep n { l with stage := .notBegun }
  | some e =>
    if (s.carrier e.entry.carrier).isSome then
      (s.setSweep n { l with stage := .inFlight }).tune n e.entry.carrier .list (some e.entry.meas)
    else s.skipEntry n e.entry.rest

/-! ## Rechecks -/

/-- A recheck's TUNE, put off until the path reported RECOVERING or PARKED, is due (R90). -/
def State.loanDue (n : Fin 8) (s : State) : Bool :=
  match (s.sweep n).loan with
  | some k => !k.issued && s.driven n && (s.path n).canTune
  | none => false

/-- That TUNE is issued, or the recheck ends without a result because its carrier index has become
unused (R90). -/
def State.issueLoan (n : Fin 8) (s : State) : State :=
  let l := s.sweep n
  match l.loan with
  | none => s
  | some k =>
    if (s.carrier k.entry.carrier).isSome then
      (s.setSweep n { l with loan := some { k with issued := true } }).tune n k.entry.carrier .recheck (some k.meas)
    else s.endLoan n

/-- A path is free for a recheck (R88). -/
def State.free (n : Fin 8) (s : State) : Bool :=
  let l := s.sweep n
  s.driven n
    && (match l.descriptor with
        | some d => d.rechecks
        | none => false)
    && decide (s.survey = .running)
    && l.loan.isNone
    && (match l.state with
        | .done => true
        | .resting => !l.direct
        | .running => decide (l.stage = .notBegun) && !l.direct
        | .idle | .suspended => false)

/-- The free path an entry goes to (R89): the lowest-numbered one LOCKED on its carrier, else the
lowest-numbered one. -/
def State.pathFor (e : Recheck) (s : State) : Option (Fin 8) :=
  match allPaths.find? fun p => s.free p && (s.path p).lockedOn e.carrier with
  | some p => some p
  | none => allPaths.find? fun p => s.free p

/-- The measurement of a recheck (R90). -/
def Recheck.meas (e : Recheck) (window : Nat) : Meas where
  cls := e.cls
  window := window
  leadIn := 1
  release := true
  requester := .recheck

/-- The head of the queue is handed to a path, which holds it as its loan (R89, R90). -/
def State.lend (p : Fin 8) (e : Recheck) (rest : List Recheck) (s : State) : State :=
  let m := e.meas s.params.recheckWindow
  let d := (s.path p).drive e.carrier
  let s := { s with recheckQueue := rest }
  (s.setSweep p { s.sweep p with loan := some ⟨e, m, d.issued⟩ }).driveAs d p e.carrier m

/-! ## The survey -/

/-- SURVEY_STATE causes (Table 13-9). -/
inductive SurveyCause where
  | request | pathsParked | restart
deriving DecidableEq, Repr

def SurveyCause.code : SurveyCause → Nat
  | .request => 0 | .pathsParked => 1 | .restart => 2

/-- A change of survey state posts SURVEY_STATE (R169). -/
def State.enterSurvey (x : SurveyState) (cause : SurveyCause) (s : State) : State :=
  let before := s.survey
  ({ s with survey := x } : State).post .surveyState 0 [byteOf before.code, byteOf x.code, byteOf cause.code]

/-- Every path whose mode field is LIST is PARKED (R175). -/
def State.listPathsParked (s : State) : Bool :=
  allPaths.all fun p => decide ((s.path p).mode = .list → (s.path p).state = .parked)

/-! ## The engine's actions -/

/-- The engine's next action, if there is one: a TUNE that has become due; the head of the Recheck Queue
to a free path; the next entry of a list about to begin one; the end of STOPPING. Of several paths the lowest-numbered
acts first (DESIGN CHOICE, assumption log 27). -/
def State.engineAct (s : State) : Option State :=
  match allPaths.find? fun n => s.entryDue n with
  | some n => some (s.issueEntry n)
  | none =>
  match allPaths.find? fun n => s.loanDue n with
  | some n => some (s.issueLoan n)
  | none =>
  match (match s.recheckQueue with
    | [] => none
    | e :: r => (s.pathFor e).map fun p => s.lend p e r) with
  | some t => some t
  | none =>
  match allPaths.find? fun n => (s.sweep n).aboutToBegin && s.driven n with
  | some n => some (s.beginEntry n)
  | none =>
  if s.survey = .stopping ∧ s.listPathsParked then some (s.enterSurvey .stopped .pathsParked) else none

/-- The engine acts until it has nothing to do. -/
def State.runEngineFor : Nat → State → State
  | 0, s => s
  | k + 1, s =>
    match s.engineAct with
    | some t => State.runEngineFor k t
    | none => s

/-- More actions than one step can hold: each of 24 rechecks can be lent once, and each of them, and each
of 8 lists, can bring a release, a TUNE and the beginning of one entry. -/
def engineFuel : Nat := 160

def State.runEngine (s : State) : State := s.runEngineFor engineFuel

/-! ## Recheck requests (R84, R85) -/

/-- Detail of RECHECK_DROPPED (Table 13-11). -/
def Recheck.droppedDetail (e : Recheck) : List Byte :=
  [byteOf e.cls.code, byteOf e.urgency.code, byteOf e.reason.code]

def State.dropped (e : Recheck) (s : State) : State :=
  s.post .recheckDropped e.carrier e.droppedDetail

def Recheck.isUrgent (e : Recheck) : Bool := decide (e.urgency = .urgent)

def Recheck.of (c : Nat) (k : MeasClass) (e : Recheck) : Bool := decide (e.carrier = c ∧ e.cls = k)

/-- The queue with an entry at the end of its urgency group (R84). -/
def placeRecheck (e : Recheck) (q : List Recheck) : List Recheck :=
  match e.urgency with
  | .urgent => q.takeWhile Recheck.isUrgent ++ e :: q.dropWhile Recheck.isUrgent
  | .routine => q ++ [e]

/-- A recheck of the carrier and class is on a path (R83). -/
def State.recheckOnPath (c : Nat) (k : MeasClass) (s : State) : Bool :=
  allPaths.any fun p =>
    match (s.sweep p).loan with
    | some l => l.entry.of c k
    | none => false

/-- A request that makes a new entry takes a place, displaces a ROUTINE entry, or is dropped (R85). -/
def State.newRecheck (e : Recheck) (s : State) : State :=
  if s.recheckQueue.length < Config.recheckPlaces then
    { s with recheckQueue := placeRecheck e s.recheckQueue }
  else match e.urgency, s.recheckQueue.getLast? with
    | .urgent, some x =>
      if x.isUrgent then s.dropped e
      else ({ s with recheckQueue := placeRecheck e s.recheckQueue.dropLast } : State).dropped x
    | _, _ => s.dropped e

/-- A request meeting a queued entry of its carrier and class (Table 6-6). -/
def State.meetRecheck (e : Recheck) (x : Recheck) (s : State) : State :=
  match x.urgency, e.urgency with
  | .routine, .urgent =>
    { s with recheckQueue := placeRecheck e (s.recheckQueue.filter fun y => !y.of e.carrier e.cls) }
  | _, _ => s

/-- A recheck request of a block or of RECHECK (R84); an entry that takes its place is offered at once. -/
def State.requestRecheck (c : Nat) (k : MeasClass) (u : Urgency) (r : RecheckReason) (s : State) : State :=
  let e : Recheck := ⟨c, k, u, r, s.clock⟩
  if !s.enabled c || s.recheckOnPath c k then s
  else match s.recheckQueue.find? fun x => x.of c k with
    | some x => s.meetRecheck e x
    | none => (s.newRecheck e).runEngine

/-! ## Rests and the tick -/

/-- A list ends (R79): LIST_DONE, and RELEASE to its path unless a loan is on it. R79 leaves the
position one past the list and Table 6-2 keeps it inside: the position of a DONE list is a free value,
from first up to first plus length (DESIGN CHOICE, assumption log 5). -/
def State.finishList (n : Fin 8) (l : SweepList) (d : Descriptor) (r : DoneReason) (s : State) : State :=
  let free := d.first + Config.freePosition s.freeCount % (d.length + 1)
  let s := { s with freeCount := s.freeCount + 1 }
  let s := s.setSweep n
    { l with
      state := .done, rest := 0, doneReason := some r, restBegan := none, position := free, direct := false }
  let s := s.post .listDone n.1 [byteOf r.code, byteOf l.pass]
  if l.loan.isSome then s else s.takeRelease n

/-- The list is RUNNING and about to begin the entry at its position (R79), which it offers its path before unless a
loan has ended with the rest over (R88). -/
def SweepList.run (l : SweepList) : SweepList := { l with state := .running, restBegan := none }

/-- The list advances when its rest has ended (R79). -/
def State.advance (n : Fin 8) (s : State) : State :=
  let l := s.sweep n
  match l.descriptor with
  | none => s
  | some d =>
    let next := l.seek.getD (l.position + 1)
    let l := { l with position := next, seek := none }
    if next = d.first + d.length then
      if l.allSkipped then s.finishList n l d .empty
      else if d.passes ≠ 0 ∧ l.pass = d.passes then s.finishList n l d .complete
      else s.setSweep n { l with pass := bump 255 l.pass, position := d.first, allSkipped := true }.run
    else s.setSweep n l.run

/-- A tick boundary at `t` counts for a list (R81): it is RESTING and its rest began before `t`. -/
def SweepList.countTick (t : Stamp) (l : SweepList) : SweepList :=
  match l.state, l.restBegan with
  | .resting, some b =>
    if b ≠ t && reached t b && decide (0 < l.rest) then { l with rest := l.rest - 1 } else l
  | _, _ => l

end Sys2Proof.Machine
end

