-- ==== Sys2Proof/Machine/Lineup.lean ====
section
/-! DEFINITION. The Lineup Controller: how a slot sees its candidates (R131), evaluation (R132 to R138),
the watch of the active source (R139), ranking reports (R111), and what a route outcome, a late DONE, a
READY shelf and the end of a hold-down or bar do to a slot (R140 to R145). -/
namespace Sys2Proof.Machine

/-! ## Candidates as a slot sees them (R131) -/

/-- Why an active source fails, in the order of Table 13-9 (R131, R196). -/
inductive FailCause where
  | absent | orphan | notRunning | disabled | lost | scrambled
deriving DecidableEq, Repr

def FailCause.code : FailCause → Nat
  | .absent => 0 | .orphan => 1 | .notRunning => 2 | .disabled => 3 | .lost => 4 | .scrambled => 5

/-- The first cause for which a candidate fails as the active source of a slot (R131, R196). -/
def State.failureOf (s : State) (x : Slot) (c : Candidate) : Option FailCause :=
  if c.absent then some .absent
  else if c.orphan then some .orphan
  else if !c.running then some .notRunning
  else if !s.enabled c.name.carrier then some .disabled
  else if (s.carrier c.name.carrier).map (·.reception.state) = some .lost then some .lost
  else if c.scrambled && !x.scrambledAllowed then some .scrambled
  else none

/-- A candidate is usable for a slot in a rank group (R131). -/
def State.usable (s : State) (x : Slot) (g : RankGroup) (c : Candidate) : Bool :=
  decide (s.group c = g) && decide (x.bar.map (·.cand) ≠ some c.name) && (!c.scrambled || x.scrambledAllowed)

/-- The candidate a slot chooses from a list in rank order: the highest usable in group (a), else the
highest usable in group (b) (R133). -/
def State.chooseFrom (s : State) (x : Slot) (l : List Candidate) : Option CandName :=
  match l.find? (s.usable x .a) with
  | some c => some c.name
  | none => (l.find? (s.usable x .b)).map (·.name)

/-- The candidates of the service a slot is bound to, in rank order. -/
def State.slotRanked (s : State) (x : Slot) : List Candidate :=
  match x.binding with
  | some b => s.ranked b.key
  | none => []

def State.choice (s : State) (x : Slot) : Option CandName := s.chooseFrom x (s.slotRanked x)

/-! ## Notice details (Table 13-11) -/

/-- SLOT_FAILOVER at the failover decision. -/
def failoverDetail (failed : CandName) (cause : FailCause) (target : CandName) : List Byte :=
  1 :: failed.bytes ++ [byteOf cause.code] ++ target.bytes ++ [byteOf OrderReason.failover.code]

/-- SLOT_FAILOVER at the DONE: the failed source is absent. -/
def failoverDoneDetail (active : CandName) : List Byte :=
  [0, 0, 0, 0, 0xFF] ++ active.bytes ++ [byteOf OrderReason.failover.code]

def seekingDetail (failed : CandName) (cause : FailCause) : List Byte := failed.bytes ++ [byteOf cause.code]

def switchedDetail (active : CandName) (r : Option OrderReason) : List Byte :=
  active.bytes ++ [byteOr (r.map (·.code))]

/-- How a route order failed (R142): rejected with the shelf's reason, or timed out. -/
inductive RouteFailure where
  | reject (reason : Nat)
  | timeout
deriving DecidableEq, Repr

def RouteFailure.bytes : RouteFailure → List Byte
  | .reject r => [0, byteOf r]
  | .timeout => [1, 0xFF]

def slotFaultDetail (failed : CandName) (f : RouteFailure) (r : Option OrderReason) : List Byte :=
  failed.bytes ++ f.bytes ++ [byteOr (r.map (·.code))]

/-- ROUTE_LATE, with the new active source where the late DONE was applied. -/
def routeLateDetail (tag : Byte) (active : Option CandName) : List Byte :=
  match active with
  | some n => 1 :: tag :: n.bytes
  | none => [0, tag, 0, 0, 0]

/-! ## Evaluation (R132) -/

/-- A slot in SEEKING chooses (R133). -/
def State.seek (i : Fin 64) (s : State) : State :=
  match s.choice (s.slot i) with
  | some n => s.giveOrder i n .initial
  | none => s

/-- The active source of a slot in ON_AIR has failed (R135). -/
def State.failOver (i : Fin 64) (failed : CandName) (cause : FailCause) (s : State) : State × List RankReport :=
  match s.choice (s.slot i) with
  | some n =>
    ((s.giveOrder i n .failover).post .slotFailover i.1 (failoverDetail failed cause n), [])
  | none =>
    let s := s.setSlot i { s.slot i with active := none, challenger := none, wins := 0, state := .seeking }
    let s := s.post .slotSeeking i.1 (seekingDetail failed cause)
    s.letGo (some failed)

/-- The highest-ranked candidate other than the active source that is usable in group (a) (R136). -/
def State.challengerFor (s : State) (x : Slot) (active : CandName) : Option Candidate :=
  (s.slotRanked x).find? fun c => decide (c.name ≠ active) && s.usable x .a c

/-- The win condition (R136). -/
def State.winsOver (s : State) (ch act : Candidate) : Bool :=
  s.ranksBefore ch act
    && decide ((s.standing act.name.carrier).getD 0 + s.params.margin ≤ (s.standing ch.name.carrier).getD 0)

/-- The evaluation is scored: a SCORED report on the carrier of the challenger or of the active source
(R137). -/
def scoredFor (ev : Option RankReport) (ch act : CandName) : Bool :=
  match ev with
  | some r => decide (r.cause = .scored ∧ (r.carrier = some ch.carrier ∨ r.carrier = some act.carrier))
  | none => false

/-- The win count after an evaluation that finds a challenger (Table 9-3). -/
def winsAfter (same win scored : Bool) (count : Nat) : Nat :=
  match same, win, scored with
  | true, true, true => bump 15 count
  | true, true, false => count
  | false, true, true => 1
  | false, true, false => 0
  | _, false, _ => 0

/-- A scored win has made the count 1, from 0 or for a new challenger (R137; DEDUCED, assumption log 18). -/
def firstWin (same win scored : Bool) (count : Nat) : Bool :=
  win && scored && (!same || decide (count = 0))

/-- The challenger rules, for an active source that does not fail (R136 to R138). -/
def State.challenge (i : Fin 64) (act : Candidate) (ev : Option RankReport) (s : State) : State :=
  let x := s.slot i
  match s.challengerFor x act.name with
  | none => s.setSlot i { x with challenger := none, wins := 0 }
  | some ch =>
    let same := decide (x.challenger = some ch.name)
    let win := s.winsOver ch act
    let scored := scoredFor ev ch.name act.name
    let count := winsAfter same win scored x.wins
    let s := s.setSlot i { x with challenger := some ch.name, wins := count }
    let s :=
      if firstWin same win scored x.wins then
        s.requestRecheck ch.name.carrier .quality .routine .challenger
      else s
    if win && decide (s.params.winCount ≤ count) && hasPassed s.clock x.holdEnd then
      s.giveOrder i ch.name .better
    else s

/-- The active source of a slot as its service lists it. -/
def State.activeOf (s : State) (x : Slot) : Option (CandName × Option Candidate) :=
  x.active.map fun n => (n, x.binding.bind fun b => s.candidateOf b.key n)

/-- Evaluation of a slot (R132). The event that caused it is the report `ev`, or another event. An active
source that its service no longer lists, which the rules exclude (R130), is taken as absent (DESIGN CHOICE, assumption
log 19). -/
def State.evaluate (i : Fin 64) (ev : Option RankReport) (s : State) : State × List RankReport :=
  let x := s.slot i
  match x.state with
  | .seeking => (s.seek i, [])
  | .onAir =>
    match s.activeOf x with
    | none => (s, [])
    | some (n, none) => s.failOver i n .absent
    | some (n, some act) =>
      match s.failureOf x act with
      | some cause => s.failOver i n cause
      | none => (s.challenge i act ev, [])
  | .vacant | .switching | .held | .fault => (s, [])

/-! ## Ranking reports (R111, R132, R139) -/

/-- The reason for which a report makes a slot ask a recheck of its active source's carrier (R139). -/
def RankReport.watchReason (r : RankReport) : Option RecheckReason :=
  match r.cause with
  | .noLockMiss => some .activeMiss
  | .shelfLoss => some .shelfLoss
  | .aged | .restarted => if r.reception.map (fun x => (x.stateBefore, x.stateAfter)) = some (.fresh, .stale) then some .activeStale else none
  | _ => none

/-- The active-source watch (R139). -/
def State.watch (i : Fin 64) (r : RankReport) (s : State) : State :=
  let x := s.slot i
  match x.state, x.active, r.watchReason with
  | .onAir, some n, some why =>
    if r.carrier = some n.carrier then s.requestRecheck n.carrier .quality .urgent why else s
  | _, _, _ => s

/-- The slots bound to the reported service are evaluated and watched, in ascending slot number. What they
let go of may bring further reports. -/
def State.takeReport (r : RankReport) : List (Fin 64) → State → State × List RankReport
  | [], s => (s, [])
  | i :: rest, s =>
    let (s, fst) := s.evaluate i (some r)
    let (s, snd) := State.takeReport r rest (s.watch i r)
    (s, fst ++ snd)

/-- Reports are taken in order; the FREED reports they bring follow them (DEDUCED, assumption log 17). -/
def State.handReportsFor : Nat → List RankReport → State → State
  | 0, _, s => s
  | _ + 1, [], s => s
  | k + 1, r :: rest, s =>
    let (s, more) := s.takeReport r (s.boundSlots r.key)
    State.handReportsFor k (rest ++ more) s

/-- The reports of a step reach the Lineup Controller. Each report beyond those given follows the freeing
of a candidate, so the pool bounds their number. -/
def State.handReports (rs : List RankReport) (s : State) : State :=
  s.handReportsFor (rs.length + s.poolSize) rs

/-- A slot operation is complete, and the reports it brought are handed over. -/
def State.settleReports (r : State × List RankReport) : State := r.1.handReports r.2

/-! ## Timers (R140) -/

/-- The hold-down parameter as a length of clock time. -/
def State.holdDown (s : State) : Stamp := ms (1000 * s.params.holdDown)

/-- A slot's hold-down end is reached. -/
def State.holdDownEnds (i : Fin 64) (s : State) : State :=
  State.settleReports ((s.setSlot i { s.slot i with holdEnd := none }).evaluate i none)

/-- A slot's barred end is reached. -/
def State.barEnds (i : Fin 64) (s : State) : State :=
  State.settleReports ((s.setSlot i { s.slot i with bar := none }).evaluate i none)

/-! ## Route outcomes -/

/-- The state a slot takes with a source on air (R141, R143). -/
def Slot.airState (x : Slot) : SlotState := if x.pinned then .held else .onAir

/-- The old active source is let go of where it differs from the new one. -/
def State.replaced (old : Option CandName) (new : CandName) (s : State) : State × List RankReport :=
  if old = some new then (s, []) else s.letGo old

/-- A DONE outcome for a slot's outstanding order (R141). A hold-down of 0 stands through the evaluation of this step and
ends in a HOLD_DOWN_END of its own (R140; DESIGN CHOICE, assumption log 37). -/
def State.routeDone (i : Fin 64) (s : State) : State :=
  let x := s.slot i
  match x.target with
  | none => s
  | some t =>
    let s := s.setSlot i
      { x with active := some t, target := none, holdEnd := some (s.clock + s.holdDown), wins := 0, failures := 0
               state := x.airState }
    let (s, freed) := s.replaced x.active t
    let s :=
      if x.lastReason = some .failover then s.post .slotFailover i.1 (failoverDoneDetail t)
      else s.post .slotSwitched i.1 (switchedDetail t x.lastReason)
    let (s, more) := s.evaluate i none
    s.handReports (freed ++ more)

/-- The record of a slot after a failure, once its target has been let go of (R142). -/
def Slot.afterFailure (x : Slot) : Slot :=
  let n := min 2 (x.failures + 1)
  if n = 2 then { x with failures := n, state := .fault, pinned := false }
  else match x.pinned, x.active with
    | true, some _ => { x with failures := n, state := .held }
    | true, none => { x with failures := n, state := .seeking, pinned := false }
    | false, some _ => { x with failures := n, state := .onAir }
    | false, none => { x with failures := n, state := .seeking }

/-- A failure outcome for a slot's outstanding order (R142). A bar of 0 stands through the evaluation of this step and
ends in a BAR_END of its own (R140; DESIGN CHOICE, assumption log 37). -/
def State.routeFails (i : Fin 64) (f : RouteFailure) (s : State) : State :=
  let x := s.slot i
  match x.target with
  | none => s
  | some t =>
    let s := s.setSlot i { x with target := none, bar := some ⟨t, s.clock + s.holdDown⟩ }
    let (s, freed) := s.letGo (some t)
    let s := s.setSlot i (s.slot i).afterFailure
    let s :=
      if (s.slot i).state = .fault then s.post .slotFault i.1 (slotFaultDetail t f x.lastReason) else s
    let (s, more) := s.evaluate i none
    s.handReports (freed ++ more)

/-- A late DONE is believed: it bears the slot's last tag, its target is still known, and no later order
is outstanding (R143). -/
def Slot.believes (tag : Byte) (x : Slot) : Option CandName :=
  match x.state with
  | .seeking | .onAir | .held | .fault => if x.lastTag = some tag then x.lastTarget else none
  | .vacant | .switching => none

/-- A slot takes a late DONE (R143). A hold-down of 0 ends as after an outcome (DESIGN CHOICE, assumption log 37). -/
def State.lateDone (i : Fin 64) (tag : Byte) (s : State) : State :=
  let x := s.slot i
  match x.believes tag with
  | none => s.post .routeLate i.1 (routeLateDetail tag none)
  | some t =>
    let s := s.setSlot i
      { x with active := some t, bar := none, holdEnd := some (s.clock + s.holdDown), wins := 0, failures := 0
               lastTarget := none, state := x.airState }
    let (s, freed) := s.replaced x.active t
    let s := s.post .routeLate i.1 (routeLateDetail tag (some t))
    let (s, more) := s.evaluate i none
    s.handReports (freed ++ more)

/-- A slot gives a resync order for a READY shelf (R145). -/
def State.resyncSlot (h : Fin 4) (i : Fin 64) (s : State) : State :=
  let x := s.slot i
  match x.binding, x.state, x.active with
  | some b, .onAir, some n | some b, .held, some n => if b.shelf = h then s.giveOrder i n .resync else s
  | _, _, _ => s

def State.resync (h : Fin 4) (s : State) : State := allSlots.foldl (fun s i => s.resyncSlot h i) s

/-- A slot in SWITCHING hands over a new SET for its target after a restart (R153). -/
def State.reorderSlot (i : Fin 64) (s : State) : State :=
  let x := s.slot i
  match x.state, x.target, x.lastReason with
  | .switching, some n, some r => s.giveOrder i n r
  | _, _, _ => s

end Sys2Proof.Machine
end

