-- ==== Sys2Proof/Machine/Score.lean ====
section
/-! DEFINITION. The Score Unit: the score of a window (R95), the standing (R96), the applying of results
and misses (R97 to R100), ageing (R101, R102), its reports (R103) and its restart (R105). The version
watch (R67) stands here too, since a scored result sets it off in the same step. -/
namespace Sys2Proof.Machine

/-! ## The score of a window (Table 7-5) -/

/-- Stage 2. -/
def merMean (merSum k : Nat) : Nat := merSum / k

/-- Stage 3. -/
def merMargin (mean required : Nat) : Nat := min 200 (mean - required)

/-- Stage 5. -/
def levelTerm (w : LevelWindow) (level : Nat) : Nat :=
  if level < w.lmin then 200 - 10 * (w.lmin - level)
  else if w.lmax < level then 200 - 10 * (level - w.lmax)
  else 200

/-- Stage 7. -/
def penalty (errored : Nat) : Nat := min 600 (25 * errored)

/-- Stage 8. -/
def rawScore (margin term pen : Nat) : Nat := 4 * margin + term - pen

/-- The score of a window of `w` counted blocks, `k` of them locked (R95). -/
def scoreOf (required : Nat) (win : LevelWindow) (w k levelSum merSum errored : Nat) : Nat :=
  rawScore (merMargin (merMean merSum k) required) (levelTerm win (levelSum / w)) (penalty errored) * k / w

/-- Required MER of a modulation (R93). -/
def Params.required (P : Params) (m : Modulation) : Nat := tabGet P.requiredMer m.index

/-- Level window of a feed kind (R94). A feed of kind NONE has no window and holds no carriers, so its line
is never read (DESIGN CHOICE, assumption log 31). -/
def Params.levelWindow (P : Params) : FeedKind → LevelWindow
  | .terrestrial | .noKind => P.windowTerrestrial
  | .cable => P.windowCable
  | .satellite => P.windowSatellite

/-- The score of a result on a carrier (R95). -/
def State.score (s : State) (c : Carrier) (r : Result) : Nat :=
  scoreOf (s.params.required c.plan.modulation) (s.params.levelWindow (s.kindOf c)) r.counted r.locked r.levelSum
    r.merSum r.erroredSum

/-! ## The standing (R96) -/

/-- The step for a difference of `d` points: rounded to the nearest, a half away from zero, and raised to
one point where a difference would not move. -/
def standingStep (f d : Nat) : Nat := if d = 0 then 0 else max 1 ((d * f + 8) / 16)

/-- A standing moved toward a score. -/
def smooth (f : Nat) (standing : Option Nat) (score : Nat) : Nat :=
  match standing with
  | none => score
  | some old => if old ≤ score then old + standingStep f (score - old) else old - standingStep f (old - score)

/-- The factor of a result: the parameter, or half of it, at least 1, for a PARTIAL result. -/
def Params.factor (P : Params) (o : MeasOutcome) : Nat :=
  match o with
  | .partialWindow => max 1 (P.smoothing / 2)
  | _ => P.smoothing

/-! ## Reports (R103, R112) -/

/-- The reception report on a carrier whose reception fields were `before` ahead of the step and are `after` it
(R103). -/
def ReceptionReport.of (c : Nat) (cause : RankCause) (before after : Reception) : ReceptionReport where
  carrier := c
  cause := cause
  stateBefore := before.state
  standingBefore := before.standing
  stateAfter := after.state
  standingAfter := after.standing
  missesAfter := after.misses

/-- The Score Unit reports a carrier (R103): every service with a candidate on it is re-sorted and reported, in
ascending order of key (R112). -/
def State.reportCarrier (c : Nat) (cause : RankCause) (before : Reception) (s : State) : State :=
  let after := ((s.carrier c).map (·.reception)).getD before
  s.handReports ((s.servicesOn c).map fun k =>
    s.rankReport k cause (some c) (some (ReceptionReport.of c cause before after)))

/-! ## The version watch (R67) -/

/-- Carrier change reasons (Table 13-9). -/
inductive ChangeReason where
  | version | multiplex | plan
deriving DecidableEq, Repr

def ChangeReason.code : ChangeReason → Nat
  | .version => 0 | .multiplex => 1 | .plan => 2

/-- The Registry compares an observation with the stored version (R67). -/
def State.watchVersion (c : Nat) (v : Nat) (s : State) : State :=
  match s.carrier c with
  | none => s
  | some x =>
    match x.content.state with
    | .new => s
    | .known =>
      if x.content.version = some v then s
      else
        let s := s.setCarrier c { x with content := { x.content with state := .changed } }
        let s := s.post .carrierChanged c [byteOf ChangeReason.version.code]
        s.requestRecheck c .content .routine .versionChange
    | .changed =>
      if x.content.version = some v then s else s.requestRecheck c .content .routine .versionChange

/-! ## Applying results (section 7.5) -/

/-- The stale limit as a length of clock time. -/
def State.staleTime (s : State) : Stamp := ms (1000 * s.params.staleLimit)

/-- Reception fields after a scored result (R97). -/
def State.scoredReception (s : State) (x : Carrier) (r : Result) : Reception :=
  { state := .fresh
    standing := some (smooth (s.params.factor r.outcome) x.reception.standing (s.score x r))
    lastScore := some (s.score x r)
    scoredAt := some r.stamp
    samples := bump 255 x.reception.samples
    misses := 0
    levelAvg := some (r.levelSum / r.counted)
    merAvg := some (merMean r.merSum r.locked)
    staleEnd := some (r.stamp + s.staleTime) }

/-- A scored QUALITY result is applied (R97). -/
def State.applyScored (r : Result) (s : State) : State :=
  match s.carrier r.carrier with
  | none => s
  | some x =>
    let t := (s.setCarrier r.carrier { x with reception := s.scoredReception x r }).reportCarrier r.carrier .scored
      x.reception
    match r.observation with
    | some v => t.watchVersion r.carrier v
    | none => t

/-- Miss causes (Table 13-9). -/
inductive MissCause where
  | noLock | shelfLoss
deriving DecidableEq, Repr

def MissCause.code : MissCause → Nat
  | .noLock => 0 | .shelfLoss => 1

def MissCause.rank : MissCause → RankCause
  | .noLock => .noLockMiss | .shelfLoss => .shelfLoss

/-- Detail of CARRIER_LOST (Table 13-11). -/
def carrierLostDetail (misses : Nat) (standing : Option Nat) (cause : MissCause) : List Byte :=
  byteOf misses :: halfOr standing ++ [byteOf cause.code]

/-- One miss is counted on a carrier (R98, R100). `level` is the level average of a result with counted
blocks. -/
def State.applyMiss (c : Nat) (cause : MissCause) (level : Option Nat) (s : State) : State :=
  match s.carrier c with
  | none => s
  | some x =>
    let n := bump 15 x.reception.misses
    let y : Reception :=
      { x.reception with
        misses := n
        levelAvg := match level with
          | some v => some v
          | none => x.reception.levelAvg }
    let s :=
      if s.params.missLimit ≤ n ∧ x.reception.state ≠ .lost then
        (s.setCarrier c { x with reception := { y with state := .lost, staleEnd := none } }).post .carrierLost c
          (carrierLostDetail n y.standing cause)
      else s.setCarrier c { x with reception := y }
    s.reportCarrier c cause.rank x.reception

/-- A LEVEL result with outcome COMPLETE or PARTIAL is applied (R99). -/
def State.applyLevel (r : Result) (s : State) : State :=
  match s.carrier r.carrier with
  | none => s
  | some x =>
    s.setCarrier r.carrier
      { x with
        reception := { x.reception with
          misses := 0
          levelAvg := match r.levelAvg with
            | some v => some v
            | none => x.reception.levelAvg } }

/-! ## Ageing (R101, R102) -/

/-- A FRESH carrier becomes STALE, and is reported with the given cause. -/
def State.ageCarrier (c : Nat) (s : State) : State :=
  match s.carrier c with
  | none => s
  | some x =>
    match x.reception.state with
    | .fresh =>
      (s.setCarrier c { x with reception := { x.reception with state := .stale, staleEnd := none } }).reportCarrier c
        .aged x.reception
    | .unmeasured | .stale | .lost => s

/-- A FRESH carrier is re-timed after a write of the stale limit (R102). -/
def State.retimeCarrier (c : Nat) (s : State) : State :=
  match s.carrier c with
  | none => s
  | some x =>
    match x.reception.state, x.reception.scoredAt with
    | .fresh, some t =>
      if 1000 * s.params.staleLimit ≤ age s.clock t then s.ageCarrier c
      else s.setCarrier c { x with reception := { x.reception with staleEnd := some (t + s.staleTime) } }
    | _, _ => s

/-- Every FRESH carrier is re-timed, in ascending order of carrier index (R102). -/
def State.retime (s : State) : State := (Store.keys s.carriers).foldl (fun s c => s.retimeCarrier c) s

/-! ## Re-plan and restart -/

/-- The reception fields return to their creation values (R7, R103). -/
def State.replanned (c : Nat) (s : State) : State :=
  match s.carrier c with
  | none => s
  | some x => (s.setCarrier c { x with reception := Reception.creation }).reportCarrier c .replanned x.reception

/-- Reception fields after RESTART with scope SURVEY (R105). -/
def Reception.restarted (x : Reception) : Reception :=
  match x.state with
  | .fresh => { x with state := .stale, staleEnd := none, misses := 0 }
  | .unmeasured | .stale | .lost => { x with misses := 0 }

/-- The restart changes a carrier's state or miss count, and so reports it (R105). -/
def Reception.changedByRestart (x : Reception) : Bool := decide (x.state = .fresh ∨ x.misses ≠ 0)

/-- The Score Unit takes RESTART with scope SURVEY: every carrier's fields change, and the changed ones are
then reported in ascending order of carrier index (R105). -/
def State.restartScores (s : State) : State :=
  let changed := (s.carriers.filter fun e => e.2.reception.changedByRestart).map fun e => (e.1, e.2.reception)
  let s := { s with carriers := s.carriers.map fun e => (e.1, { e.2 with reception := e.2.reception.restarted }) }
  changed.foldl (fun s e => s.reportCarrier e.1 .restarted e.2) s

/-! ## Taking handed-over results (R49, R68) -/

/-- The first handed-over result of an outbox that goes to the asked block, with its place. -/
def firstHanded (p : Handed → Bool) (l : List Handed) : Option (Nat × Handed) :=
  (firstIdx p l).bind fun n => (l[n]?).map fun h => (n, h)

/-- The result at a place of a path's outbox has been taken; the path may now detach (R47, R68). -/
def State.taken (p : Fin 8) (n : Nat) (s : State) : State :=
  (s.setPath p { s.path p with outbox := (s.path p).outbox.eraseIdx n }).tryDetach p |>.runEngine

/-- The Score Unit takes QUALITY and LEVEL results. -/
def Handed.toScoreUnit (h : Handed) : Bool :=
  decide (h.result.cls = some .quality ∨ h.result.cls = some .level)

def Handed.toRegistry (h : Handed) : Bool := decide (h.result.cls = some .content)

/-- A result the Score Unit scores (R95). -/
def Result.scored (r : Result) : Bool :=
  decide (r.cls = some .quality ∧ (r.outcome = .complete ∨ r.outcome = .partialWindow))

/-- A result that counts a miss (R98). -/
def Result.missed (r : Result) : Bool :=
  decide ((r.cls = some .quality ∨ r.cls = some .level) ∧ r.outcome = .noLock)

/-- A LEVEL result of a carrier that held lock (R99). -/
def Result.levelSeen (r : Result) : Bool :=
  decide (r.cls = some .level ∧ (r.outcome = .complete ∨ r.outcome = .partialWindow))

/-- The Score Unit takes the oldest result handed to it by the path, where it is of the kind asked for, and
applies it with `act` unless its carrier was disabled at the hand-over (R9). The taking is a command of its own
(DESIGN CHOICE, assumption log 14). -/
def State.scoreTakes (p : Fin 8) (kind : Result → Bool) (act : Result → State → State) (s : State) : State :=
  match firstHanded Handed.toScoreUnit (s.path p).outbox with
  | some (n, h) =>
    if kind h.result then
      let s := if h.applies then act h.result s else s
      s.taken p n
    else s
  | none => s

/-- The miss of a NO_LOCK result (R98). -/
def State.applyNoLock (r : Result) (s : State) : State := s.applyMiss r.carrier .noLock r.levelAvg

end Sys2Proof.Machine
end

