-- ==== Sys2Proof/Machine/Registry.lean ====
section
/-! DEFINITION. The Service Registry: the processing of a complete announcement (R116 to R121), the release
of a carrier's candidates (R116, R11), the merging of a FOUND service (R124), and the removal of a service
(R126). -/
namespace Sys2Proof.Machine

/-! ## Candidates on a carrier -/

/-- The candidates on a carrier, in rising order of service key. -/
def State.candidatesOn (s : State) (c : Nat) : List Candidate :=
  s.services.flatMap fun e => e.2.cands.filter fun x => decide (x.name.carrier = c)

/-- A service record with one of its candidates rewritten. -/
def Service.revise (n : CandName) (f : Candidate → Candidate) (v : Service) : Service :=
  { v with cands := v.cands.map fun x => if x.name = n then f x else x }

/-- A candidate of the pool rewritten, in the service that lists it. -/
def State.reviseCandidate (n : CandName) (f : Candidate → Candidate) (s : State) : State :=
  match s.candidate? n with
  | none => s
  | some (key, _) =>
    match s.service key with
    | none => s
    | some v => s.setService key (v.revise n f)

/-- One candidate is released: freed where no slot refers to it, else marked orphan and absent (R116). -/
def State.releaseCandidate (n : CandName) (s : State) : State :=
  if s.referred n then s.reviseCandidate n fun x => { x with orphan := true, absent := true }
  else s.freeCandidate n

/-- Every candidate on a carrier is released (R116). -/
def State.releaseCandidates (c : Nat) (s : State) : State :=
  (s.candidatesOn c).foldl (fun s x => s.releaseCandidate x.name) s

/-- Every candidate on a carrier is freed (R11). -/
def State.freeCandidates (c : Nat) (s : State) : State :=
  (s.candidatesOn c).foldl (fun s x => s.freeCandidate x.name) s

/-- Services of a list that still exist are reported with a cause that names a carrier or none (R111). -/
def State.reportServices (keys : List Nat) (cause : RankCause) (c : Option Nat) (s : State) : State :=
  s.handReports ((keys.filter fun k => (s.service k).isSome).map fun k => s.rankReport k cause c none)

/-! ## Filing entries (R118 to R120) -/

/-- The controller key a pair is bound to. -/
def State.boundKey (s : State) (p : Pair) : Option Nat := (s.bindings.find? fun b => decide (b.pair = p)).map (·.key)

/-- The FOUND service whose origin is a pair. -/
def State.foundKey (s : State) (p : Pair) : Option Nat := (s.services.find? fun e => decide (e.2.pair = some p)).map (·.1)

/-- The lowest automatic key that no service holds (R107). -/
def State.freeAutoKey (s : State) : Option Nat :=
  ((List.range Config.servicePlaces).map (Config.firstAutoKey + ·)).find? fun k => (s.service k).isNone

/-- An entry updates a candidate and its service (R120). -/
def Service.update (n : CandName) (e : Announced) (v : Service) : Service :=
  let v := v.revise n fun x => { x with scrambled := e.scrambled, running := e.running, absent := false }
  { v with kind := e.kind, name := if v.name.isEmpty then e.name else v.name }

/-- The candidate an entry makes (R109). -/
def Announced.candidate (c : Nat) (e : Announced) : Candidate where
  name := ⟨c, e.serviceId⟩
  absent := false
  scrambled := e.scrambled
  running := e.running
  orphan := false

/-- A new candidate is made in an existing service's list and updated (R119, R120). -/
def State.makeCandidate (key c : Nat) (e : Announced) (s : State) : State :=
  match s.service key with
  | none => s
  | some v =>
    s.setService key
      (({ v with cands := insertBy Candidate.nameBefore (e.candidate c) v.cands } : Service).update ⟨c, e.serviceId⟩ e)

/-- Full tables (Table 13-9). -/
inductive FullTable where
  | candidatePool | serviceTable
deriving DecidableEq, Repr

def FullTable.code : FullTable → Nat
  | .candidatePool => 0 | .serviceTable => 1

/-- An entry is skipped for a full table (R119). -/
def State.tableFull (t : FullTable) (c : Nat) (e : Announced) (s : State) : State :=
  s.post .tableFull c (byteOf t.code :: le16 e.serviceId)

/-- Detail of CANDIDATE_OVERFLOW (Table 13-11). -/
def overflowDetail (freed : Nat) (n : CandName) : List Byte := byteOf freed :: n.bytes

/-- The lowest-ranked candidate of a full service gives way: it is absent or on a LOST carrier, and no slot
refers to it (R119). -/
def State.givesWay (s : State) (x : Candidate) : Bool :=
  (x.absent || decide ((s.carrier x.name.carrier).map (·.reception.state) = some .lost)) && !s.referred x.name

/-- An entry without a candidate on its carrier is filed under an existing service (R119, tests 1 and 2).
The flag says that the service was touched. -/
def State.fileUnder (key c : Nat) (e : Announced) (v : Service) (s : State) : State × Bool :=
  if Config.candidatePlaces ≤ v.cands.length then
    match (s.ranked key).getLast? with
    | some x =>
      if s.givesWay x then ((s.freeCandidate x.name).makeCandidate key c e, true)
      else (s.post .candidateOverflow key (overflowDetail 0 ⟨c, e.serviceId⟩), false)
    | none => (s, false)
  else if Config.poolPlaces ≤ s.poolSize then (s.tableFull .candidatePool c e, false)
  else (s.makeCandidate key c e, true)

/-- An entry for which a new FOUND service is needed (R119, tests 2 to 4). -/
def State.fileNew (p : Pair) (c : Nat) (e : Announced) (s : State) : State × Option Nat :=
  if Config.poolPlaces ≤ s.poolSize then (s.tableFull .candidatePool c e, none)
  else if Config.servicePlaces ≤ s.services.length then (s.tableFull .serviceTable c e, none)
  else match s.freeAutoKey with
    | none => (s.tableFull .serviceTable c e, none)
    | some key =>
      let s := s.setService key { pair := some p, kind := .unknown, name := [], cands := [] }
      let s := s.post .serviceFound key (le16 p.network ++ le16 p.serviceId ++ [byteOf c])
      (s.makeCandidate key c e, some key)

/-- One entry is filed (R118, R119); the keys of touched services are gathered in rising order. -/
def State.fileEntry (network c : Nat) (e : Announced) (s : State) (touched : List Nat) : State × List Nat :=
  let n : CandName := ⟨c, e.serviceId⟩
  let p : Pair := ⟨network, e.serviceId⟩
  match s.candidate? n with
  | some (key, x) =>
    if x.orphan then (s, touched)
    else match s.service key with
      | some v => (s.setService key (v.update n e), addKey key touched)
      | none => (s, touched)
  | none =>
    match (match s.boundKey p with
      | some k => some k
      | none => s.foundKey p) with
    | some key =>
      match s.service key with
      | some v =>
        let (s, filed) := s.fileUnder key c e v
        (s, if filed then addKey key touched else touched)
      | none => (s, touched)
    | none =>
      match s.fileNew p c e with
      | (s, some key) => (s, addKey key touched)
      | (s, none) => (s, touched)

def State.fileEntries (network c : Nat) : List Announced → State → List Nat → State × List Nat
  | [], s, touched => (s, touched)
  | e :: r, s, touched =>
    let (s, touched) := s.fileEntry network c e touched
    State.fileEntries network c r s touched

/-! ## Processing an announcement (section 8.4) -/

/-- Candidates on the carrier that become absent: present until now, not orphan, and not announced (R121; DEDUCED,
assumption log 20). -/
def State.newlyAbsent (c : Nat) (a : Announcement) (s : State) : List Candidate :=
  (s.candidatesOn c).filter fun x =>
    !x.orphan && !x.absent && !a.entries.any fun e => decide (e.serviceId = x.name.serviceId)

/-- The services that list one of the given candidates, added to the touched keys. -/
def State.addOwners (l : List Candidate) (s : State) (touched : List Nat) : List Nat :=
  l.foldl (fun t x => match s.candidate? x.name with
    | some (key, _) => addKey key t
    | none => t) touched

/-- Detail of CARRIER_CHANGED with reason MULTIPLEX (Table 13-11). -/
def multiplexDetail (old new : Multiplex) : List Byte :=
  byteOf ChangeReason.multiplex.code :: le16 old.network ++ le16 old.stream ++ le16 new.network ++ le16 new.stream

/-- The comparison of identities, and the release it may bring (R116). -/
def State.compareIdentity (c : Nat) (stored : Option Multiplex) (new : Multiplex) (s : State) : State × List Nat :=
  match stored with
  | none => (s, [])
  | some old =>
    if old = new then (s, [])
    else
      let touched := s.servicesOn c
      ((s.releaseCandidates c).post .carrierChanged c (multiplexDetail old new), touched)

/-- Content fields after an announcement (R117). -/
def Announcement.content (a : Announcement) : Content where
  state := .known
  identity := some a.identity
  version := some a.version
  truncated := a.truncated

/-- A complete announcement is processed (R116 to R121). -/
def State.applyAnnouncement (c : Nat) (a : Announcement) (s : State) : State :=
  match s.carrier c with
  | none => s
  | some x =>
    let (s, touched) := s.compareIdentity c x.content.identity a.identity
    let s := s.setCarrier c { x with content := a.content }
    let (s, touched) := s.fileEntries a.identity.network c a.entries touched
    let gone := s.newlyAbsent c a
    let touched := s.addOwners gone touched
    let s := gone.foldl (fun s y => s.reviseCandidate y.name fun z => { z with absent := true }) s
    s.reportServices touched .content (some c)

/-- The Registry takes the oldest CONTENT result handed to it by the path; only one that carries an
announcement changes anything, and only where its carrier was enabled at the hand-over (section 8.4). The taking is a
command of its own (DESIGN CHOICE, assumption log 14). -/
def State.registryTakes (p : Fin 8) (s : State) : State :=
  match firstHanded Handed.toRegistry (s.path p).outbox with
  | some (n, h) =>
    let s :=
      match h.applies, h.result.announcement with
      | true, some a => s.applyAnnouncement h.result.carrier a
      | _, _ => s
    s.taken p n
  | none => s

/-! ## Bindings of pairs (R123, R124) -/

/-- The order in which pairs stand in a service record (R195). -/
def PairBinding.before (x y : PairBinding) : Bool :=
  keysBefore [(x.pair.network, y.pair.network), (x.pair.serviceId, y.pair.serviceId)]

def State.bind (p : Pair) (key : Nat) (s : State) : State :=
  { s with bindings := insertBy PairBinding.before ⟨p, key⟩ s.bindings }

/-- A slot bound to one key takes another, and keeps its other fields (R124). -/
def Slot.rebind (old new : Nat) (x : Slot) : Slot :=
  { x with binding := x.binding.map fun b => if b.key = old then { b with key := new } else b }

/-- The candidates a merged list keeps: every one a slot refers to, then the best of the others, up to 6;
and the ones it frees, best first (R124). `l` is in rank order. -/
def State.mergeSplit (s : State) (l : List Candidate) : List Candidate × List Candidate :=
  let (kept, others) := l.partition fun x => s.referred x.name
  let room := Config.candidatePlaces - kept.length
  (kept ++ others.take room, others.drop room)

/-- The surplus candidates of a merged list are freed, best first, and CANDIDATE_OVERFLOW is posted (R124, step 3;
DEDUCED, assumption log 23). -/
def State.trimMerged (key : Nat) (s : State) : State :=
  let surplus := (s.mergeSplit (s.ranked key)).2
  match surplus.getLast? with
  | none => s
  | some x =>
    (surplus.foldl (fun s y => s.freeCandidate y.name) s).post .candidateOverflow key
      (overflowDetail surplus.length x.name)

/-- The record of the merged service (R124, steps 1 and 2). -/
def Service.absorb (k : Option Service) (f : Service) : Service :=
  match k with
  | none => { pair := none, kind := f.kind, name := f.name, cands := f.cands }
  | some v =>
    { v with
      kind := if v.kind = .unknown then f.kind else v.kind
      name := if v.name.isEmpty then f.name else v.name
      cands := sortBy Candidate.nameBefore (v.cands ++ f.cands) }

/-- A FOUND service is merged into the service of a controller key (R124). -/
def State.merge (found key : Nat) (f : Service) (s : State) : State :=
  let s := s.setService key (Service.absorb (s.service key) f)
  let s := s.setService found { f with cands := [] }
  let s := s.trimMerged key
  let s := { s with slots := tabMap (Slot.rebind found key) s.slots }
  let s := { s with services := Store.del s.services found }
  s.reportServices [key] .merge none

/-- A binding that passes is stored and carried out (R123, R124). -/
def State.bindPair (p : Pair) (key : Nat) (s : State) : State :=
  let s := s.bind p key
  match s.foundKey p with
  | some found =>
    match s.service found with
    | some f => s.merge found key f
    | none => s
  | none =>
    match s.service key with
    | some _ => s
    | none => s.setService key { pair := none, kind := .unknown, name := [], cands := [] }

/-- A service is removed with its bindings and candidates (R126). -/
def State.dropService (key : Nat) (s : State) : State :=
  let names := ((s.service key).map fun v => v.cands.map (·.name)).getD []
  let s := { s with bindings := s.bindings.filter fun b => !decide (b.key = key) }
  let s := names.foldl (fun s n => s.freeCandidate n) s
  { s with services := Store.del s.services key }

end Sys2Proof.Machine
end

