-- ==== Sys2Proof/Machine/PlanRequests.lean ====
section
/-! DEFINITION. PLAN_PUT (R2 to R7), PLAN_DISABLE (R8) and PLAN_ERASE (R11). -/
namespace Sys2Proof.Machine

/-- A body whose length its kind does not allow (R183, R194). -/
def badLength {α : Type} : Checked α := .error (Answer.refuse .badLength)

/-- A path holds a carrier (R4). -/
def Path.holds (c : Nat) (x : Path) : Bool :=
  match x.state with
  | .waitFeed | .settling | .locking | .locked | .measuring | .releasing => decide (x.tuned = some c)
  | .recovering => decide (x.heldTune.map (·.carrier) = some c)
  | .parked => false

def State.held (s : State) (c : Nat) : Bool := allPaths.any fun p => (s.path p).holds c

/-! ## Plan field ranges (Table 2-2) -/

def FeedKind.frequency? (k : FeedKind) (n : Nat) : Option Nat :=
  match k with
  | .terrestrial => between? 170000 862000 n
  | .cable => between? 110000 862000 n
  | .satellite => between? 950000 2150000 n
  | .noKind => none

def FeedKind.rate? (k : FeedKind) (n : Nat) : Option Nat :=
  match k with
  | .terrestrial => between? 6 8 n
  | .cable => between? 1000 7200 n
  | .satellite => between? 1000 45000 n
  | .noKind => none

/-- A band operand: LOW or HIGH for a SATELLITE feed, absent for any other kind. -/
def FeedKind.band? (k : FeedKind) (b : Byte) : Option (Option Band) :=
  match k with
  | .satellite => if b = 0 then some (some .low) else if b = 1 then some (some .high) else none
  | _ => if b = 0xFF then some none else none

def FeedKind.pol? (k : FeedKind) (b : Byte) : Option (Option Polarisation) :=
  match k with
  | .satellite => if b = 0 then some (some .vertical) else if b = 1 then some (some .horizontal) else none
  | _ => if b = 0xFF then some none else none

/-- The setting that a band and a polarisation form. -/
def settingOf (b : Option Band) (p : Option Polarisation) : Option Setting :=
  match b, p with
  | some b, some p => some ⟨b, p⟩
  | _, _ => none

/-- A feed operand that may hold carriers (R2, R5). -/
def State.planFeed? (s : State) (n : Nat) : Option (Fin 6) :=
  (fin? 6 n).bind fun f => if (s.feed f).kind = .noKind then none else some f

def modulationFor? (k : FeedKind) (b : Byte) : Option Modulation :=
  (Modulation.ofCode b.toNat).bind fun m => if m.suits = k then some m else none

/-- The checks of PLAN_PUT (R5). -/
def checkPlanPut (body : List Byte) (s : State) : Checked (Nat × Plan) :=
  match body with
  | [i, f, f0, f1, f2, f3, b, p, r0, r1, m, e] => do
    let feed ← field 2 (s.planFeed? f.toNat)
    let kind := (s.feed feed).kind
    let frequency ← field 3 (kind.frequency? (num32 f0 f1 f2 f3))
    let band ← field 4 (kind.band? b)
    let pol ← field 5 (kind.pol? p)
    let rate ← field 6 (kind.rate? (num16 r0 r1))
    let modulation ← field 7 (modulationFor? kind m)
    let enabled ← field 8 (flag? e)
    refuseIf (s.enabled i.toNat) .inUse
    refuseIf (s.held i.toNat) .busy
    .ok (i.toNat, ⟨feed, frequency, settingOf band pol, rate, modulation, enabled⟩)
  | _ => badLength

/-- Two plans tune alike: feed, frequency and setting (R7). -/
def Plan.sameTuning (x y : Plan) : Bool :=
  decide (x.feed = y.feed ∧ x.frequency = y.frequency ∧ x.setting = y.setting)

/-- Two plans demodulate alike: rate and modulation (R7). -/
def Plan.sameSignal (x y : Plan) : Bool := decide (x.rate = y.rate ∧ x.modulation = y.modulation)

/-- A carrier that is created (R6). -/
def Plan.created (x : Plan) : Carrier := ⟨x, Reception.creation, Content.creation⟩

/-- A disabled carrier returns to service, its fields unchanged (R7, R113). -/
def State.reEnable (c : Nat) (x : Carrier) (p : Plan) (s : State) : State :=
  let s := s.setCarrier c { x with plan := p }
  if p.enabled then s.reportServices (s.servicesOn c) .enabled (some c) else s

/-- The tuning of a carrier changes: it begins again as a new carrier at its index (R7, R113). The order of the reports
is the model's reading (DEDUCED, assumption log 21). -/
def State.retuned (c : Nat) (x : Carrier) (p : Plan) (s : State) : State :=
  let s := s.setCarrier c { x with plan := { p with enabled := x.plan.enabled } }
  let s := s.replanned c
  let touched := s.servicesOn c
  let s := s.setCarrier c ⟨{ p with enabled := x.plan.enabled }, Reception.creation, Content.creation⟩
  let s := (s.releaseCandidates c).post .carrierChanged c [byteOf ChangeReason.plan.code]
  let s := s.setCarrier c ⟨p, Reception.creation, Content.creation⟩
  s.reportServices touched .plan (some c)

/-- PLAN_PUT carried out (R6, R7). -/
def State.putPlan (c : Nat) (p : Plan) (s : State) : State :=
  match s.carrier c with
  | none => s.setCarrier c p.created
  | some x =>
    if !x.plan.sameTuning p then s.retuned c x p
    else if !x.plan.sameSignal p then (s.setCarrier c { x with plan := p }).replanned c
    else s.reEnable c x p

def handlePlanPut (body : List Byte) (s : State) : Answer × State :=
  carryOutOk (checkPlanPut body s) (fun o s => s.putPlan o.1 o.2) s

/-- The checks of PLAN_DISABLE (R8). -/
def checkPlanDisable (body : List Byte) (s : State) : Checked Nat :=
  match body with
  | [i] => do
    let _ ← exists? (s.carrier i.toNat)
    .ok i.toNat
  | _ => badLength

/-- A LIST path is LOCKED and idle on the carrier (R8). -/
def State.idleOn (c : Nat) (s : State) (p : Fin 8) : Bool :=
  decide ((s.path p).mode = .list) && (s.path p).lockedOn c

/-- An enabled carrier is taken out of service (R8). -/
def State.disableCarrier (c : Nat) (x : Carrier) (s : State) : State :=
  let s := s.setCarrier c { x with plan := { x.plan with enabled := false } }
  let s := { s with recheckQueue := s.recheckQueue.filter fun e => !decide (e.carrier = c) }
  let s := allPaths.foldl (fun s p => if s.idleOn c p then s.takeRelease p else s) s
  (s.reportServices (s.servicesOn c) .disabled (some c)).runEngine

def handlePlanDisable (body : List Byte) (s : State) : Answer × State :=
  carryOutOk (checkPlanDisable body s)
    (fun c s =>
      match s.carrier c with
      | some x => if x.plan.enabled then s.disableCarrier c x else s
      | none => s) s

/-- The checks of PLAN_ERASE (R11). -/
def checkPlanErase (body : List Byte) (s : State) : Checked Nat :=
  match body with
  | [i] => do
    let _ ← exists? (s.carrier i.toNat)
    refuseIf (s.enabled i.toNat) .inUse
    refuseIf (s.held i.toNat) .busy
    refuseIf ((s.candidatesOn i.toNat).any fun x => s.referred x.name) .inUse
    .ok i.toNat
  | _ => badLength

/-- A carrier is removed (R11). -/
def State.eraseCarrier (c : Nat) (s : State) : State :=
  let touched := s.servicesOn c
  let s := (s.freeCandidates c).reportServices touched .erased (some c)
  { s with carriers := Store.del s.carriers c }

def handlePlanErase (body : List Byte) (s : State) : Answer × State :=
  carryOutOk (checkPlanErase body s) State.eraseCarrier s

end Sys2Proof.Machine
end

