-- ==== Sys2Proof/Machine/FeedRequests.lean ====
section
/-! DEFINITION. FEED_SET (R16) and FEED_ENABLE (R17). -/
namespace Sys2Proof.Machine

/-- A used carrier names the feed (R13). -/
def State.namesFeed (s : State) (f : Fin 6) : Bool := s.carriers.any fun e => decide (e.2.plan.feed = f)

/-- Paths are attached to the feed or wait for it. -/
def State.feedUsed (s : State) (f : Fin 6) : Bool := decide (0 < s.users f) || !(s.feed f).waiting.isEmpty

structure FeedSetting where
  feed : Fin 6
  kind : FeedKind
  supply : Bool
  preference : Nat
deriving DecidableEq, Repr

/-- A supply flag operand: it must be yes for a SATELLITE feed (R16). -/
def supply? (k : FeedKind) (b : Byte) : Option Bool :=
  (flag? b).bind fun x => if k = .satellite ∧ x = false then none else some x

/-- The checks of FEED_SET (R13, R16). -/
def checkFeedSet (body : List Byte) (s : State) : Checked FeedSetting :=
  match body with
  | [f, k, u, p] => do
    let feed ← field 1 (fin? 6 f.toNat)
    let kind ← field 2 (FeedKind.ofCode k.toNat)
    let supply ← field 3 (supply? kind u)
    let preference ← field 4 (upTo? 7 p.toNat)
    let x := s.feed feed
    refuseIf (s.feedUsed feed) .inUse
    refuseIf (decide ((kind ≠ x.kind ∨ supply ≠ x.supply) ∧ x.state ≠ .off)) .wrongState
    refuseIf (decide (kind ≠ x.kind) && s.namesFeed feed) .inUse
    .ok ⟨feed, kind, supply, preference⟩
  | _ => badLength

/-- The services with a candidate on a carrier of the feed, in rising order of key (R113). -/
def State.servicesOnFeed (s : State) (f : Fin 6) : List Nat :=
  (s.services.filter fun e => e.2.cands.any fun x =>
    decide ((s.carrier x.name.carrier).map (·.plan.feed) = some f)).map (·.1)

/-- FEED_SET carried out (R16). -/
def State.setFeedUp (o : FeedSetting) (s : State) : State :=
  let x := s.feed o.feed
  let t := s.setFeed o.feed
    { x with
      kind := o.kind
      supply := o.supply
      preference := o.preference
      setting := if o.kind = x.kind then x.setting else none }
  if o.preference = x.preference then t else t.reportServices (t.servicesOnFeed o.feed) .preference none

def handleFeedSet (body : List Byte) (s : State) : Answer × State :=
  carryOutOk (checkFeedSet body s) State.setFeedUp s

/-- The checks of FEED_ENABLE (R17). -/
def checkFeedEnable (body : List Byte) (s : State) : Checked (Fin 6 × Bool) :=
  match body with
  | [f, w] => do
    let feed ← field 1 (fin? 6 f.toNat)
    let on ← field 2 (flag? w)
    let x := s.feed feed
    let off := decide (x.state = .off)
    refuseIf (on && off && decide (x.kind = .noKind)) .wrongState
    refuseIf (on && off && decide (0 < s.users feed)) .inUse
    refuseIf (!on && s.feedUsed feed) .inUse
    .ok (feed, on)
  | _ => badLength

/-- A feed as FEED_ENABLE on leaves it, from OFF (R17). -/
def Feed.enabledOn (x : Feed) : Feed :=
  match x.state with
  | .off => { x with state := .on, faultCount := 0, setting := if x.kind = .satellite then none else x.setting }
  | .on | .setting | .fault | .retry => x

/-- A feed as FEED_ENABLE off leaves it (R17). -/
def Feed.enabledOff (x : Feed) : Feed :=
  { x with state := .off, settleEnd := none, retryEnd := none, clearEnd := none }

def handleFeedEnable (body : List Byte) (s : State) : Answer × State :=
  carryOutOk (checkFeedEnable body s)
    (fun o s => s.setFeed o.1 (if o.2 then (s.feed o.1).enabledOn else (s.feed o.1).enabledOff)) s

end Sys2Proof.Machine
end

