-- ==== Sys2Proof/Machine/ListRequests.lean ====
section
/-! DEFINITION. LIST_WRITE (R71), LIST_DEFINE (R72), LIST_SEEK (R82) and RECHECK (R86). -/
namespace Sys2Proof.Machine

/-! ## LIST_WRITE -/

/-- A full entry record as it stands in the body, its seven fields unchecked (Table 13-4). -/
structure RawEntry where
  carrier : Byte
  cls : Byte
  window : Byte
  leadIn : Byte
  release : Byte
  rest0 : Byte
  rest1 : Byte
  note : Byte
deriving DecidableEq, Repr

/-- As many entry records as the count asks for, blank or full, and nothing after them (R71). -/
def rawEntries : Nat → List Byte → Option (List (Option RawEntry))
  | 0, [] => some []
  | 0, _ :: _ => none
  | _ + 1, [] => none
  | n + 1, m :: r =>
    if m = 0 then (rawEntries n r).map (none :: ·)
    else if m = 1 then
      match r with
      | c :: k :: w :: l :: e :: r0 :: r1 :: t :: rest => (rawEntries n rest).map (some ⟨c, k, w, l, e, r0, r1, t⟩ :: ·)
      | _ => none
    else none

/-- A full record checked: its entry, or the number of its first failing field (R71). -/
def RawEntry.check (e : RawEntry) : Except Nat SweepEntry :=
  match MeasClass.ofCode e.cls.toNat with
  | none => .error 4
  | some cls =>
    match window? e.window with
    | none => .error 5
    | some window =>
      match upTo? 3 e.leadIn.toNat with
      | none => .error 6
      | some leadIn =>
        match flag? e.release with
        | none => .error 7
        | some release =>
          match upTo? 4095 (num16 e.rest0 e.rest1) with
          | none => .error 8
          | some rest =>
            match flag? e.note with
            | none => .error 9
            | some note => .ok ⟨e.carrier.toNat, cls, window, leadIn, release, rest, note⟩

/-- Records checked in index order from index `n`: the entries with their indexes, or the failing field and
its entry's index. -/
def checkEntries : Nat → List (Option RawEntry) → Except (Nat × Nat) (List (Nat × Option SweepEntry))
  | _, [] => .ok []
  | n, none :: r =>
    match checkEntries (n + 1) r with
    | .ok l => .ok ((n, none) :: l)
    | .error e => .error e
  | n, some x :: r =>
    match x.check with
    | .error f => .error (f, n)
    | .ok e =>
      match checkEntries (n + 1) r with
      | .ok l => .ok ((n, some e) :: l)
      | .error e => .error e

/-- The index of the first entry whose carrier index is unused. -/
def State.unusedEntry (s : State) (l : List (Nat × Option SweepEntry)) : Option Nat :=
  (l.find? fun e =>
    match e.2 with
    | some x => (s.carrier x.carrier).isNone
    | none => false).map (·.1)

/-- An entry of Plan Memory written (R71). -/
def writeEntry (m : Store SweepEntry) (e : Nat × Option SweepEntry) : Store SweepEntry :=
  match e.2 with
  | some x => Store.put m e.1 x
  | none => Store.del m e.1

/-- The Plan Memory index of an OUT_OF_RANGE reply when field 1 or 2 failed, so that no entry did: the guide
gives none, and it is a free value (DESIGN CHOICE, assumption log 3). -/
def State.runRange (f : Nat) (s : State) : Answer × State :=
  (⟨.outOfRange, byteOf f :: le16 (Config.freeHalf s.freeCount).toNat⟩, { s with freeCount := s.freeCount + 1 })

/-- LIST_WRITE (R71). -/
def handleListWrite (body : List Byte) (s : State) : Answer × State :=
  match body with
  | f0 :: f1 :: c0 :: c1 :: records =>
    let first := num16 f0 f1
    let count := num16 c0 c1
    match rawEntries count records with
    | none => (Answer.refuse .badLength, s)
    | some raw =>
      if 511 < first then s.runRange 1
      else if count = 0 ∨ Config.planEntries < first + count then s.runRange 2
      else match checkEntries first raw with
        | .error (f, n) => (⟨.outOfRange, byteOf f :: le16 n⟩, s)
        | .ok entries =>
          match s.unusedEntry entries with
          | some n => (⟨.notFound, le16 n⟩, s)
          | none =>
            if s.survey = .stopped then
              (Answer.ok, { s with planMemory := entries.foldl writeEntry s.planMemory })
            else (Answer.refuse .wrongState, s)
  | _ => (Answer.refuse .badLength, s)

/-! ## LIST_DEFINE -/

/-- The checks of LIST_DEFINE (R72). -/
def checkListDefine (body : List Byte) (s : State) : Checked (Fin 8 × Descriptor) :=
  match body with
  | [l, f0, f1, n0, n1, p, r] => do
    let list ← field 1 (fin? 8 l.toNat)
    let first ← field 2 (upTo? 511 (num16 f0 f1))
    let length ← field 3 (between? 1 (Config.planEntries - first) (num16 n0 n1))
    let rechecks ← field 5 (flag? r)
    refuseIf (decide (s.survey ≠ .stopped)) .wrongState
    .ok (list, ⟨first, length, p.toNat, rechecks⟩)
  | _ => badLength

/-- A list record as LIST_DEFINE leaves it (R72). -/
def Descriptor.fresh (d : Descriptor) : SweepList :=
  { SweepList.cold with descriptor := some d, position := d.first }

def handleListDefine (body : List Byte) (s : State) : Answer × State :=
  carryOutOk (checkListDefine body s) (fun o s => s.setSweep o.1 o.2.fresh) s

/-! ## LIST_SEEK -/

/-- The list names the position (R82). -/
def SweepList.covers (p : Nat) (l : SweepList) : Bool :=
  match l.descriptor with
  | some d => decide (d.first ≤ p ∧ p < d.first + d.length)
  | none => false

/-- The checks of LIST_SEEK (R82). -/
def checkListSeek (body : List Byte) (s : State) : Checked (Fin 8 × Nat) :=
  match body with
  | [l, p0, p1] => do
    let list ← field 1 (fin? 8 l.toNat)
    let position ← field 2 (upTo? 511 (num16 p0 p1))
    refuseIf (!(s.sweep list).covers position) .notFound
    .ok (list, position)
  | _ => badLength

/-- The position is kept as the pending seek (R82). -/
def SweepList.seekLater (p : Nat) (l : SweepList) : SweepList := { l with seek := some p }

/-- The position takes the value at once (R82). -/
def SweepList.seekNow (p : Nat) (l : SweepList) : SweepList := { l with position := p, seek := none }

/-- A DONE list is moved (R82): it is about to begin the entry where `drives` says that the survey is RUNNING
and its path is driven, and is SUSPENDED otherwise. -/
def SweepList.seekDone (p : Nat) (drives : Bool) (l : SweepList) : SweepList :=
  { l with
    position := p
    pass := 1
    allSkipped := true
    doneReason := none
    seek := none
    state := if drives then .running else .suspended
    resume := if drives then none else some .running }

/-- LIST_SEEK by the list's state (R82). A list suspended with an entry in flight counts as about to begin one
(DEDUCED, assumption log 24). -/
def SweepList.seekTo (p : Nat) (drives : Bool) (l : SweepList) : SweepList :=
  match l.state with
  | .idle => l
  | .resting => l.seekLater p
  | .running => if l.stage = .notBegun then l.seekNow p else l.seekLater p
  | .suspended => if l.resume = some .resting then l.seekLater p else l.seekNow p
  | .done => l.seekDone p drives

def State.seekList (n : Fin 8) (p : Nat) (s : State) : State :=
  (s.setSweep n ((s.sweep n).seekTo p (decide (s.survey = .running) && s.driven n))).runEngine

def handleListSeek (body : List Byte) (s : State) : Answer × State :=
  carryOutOk (checkListSeek body s) (fun o s => s.seekList o.1 o.2) s

/-! ## RECHECK -/

/-- A recheck class operand: QUALITY or CONTENT (R86). -/
def recheckClass? (b : Byte) : Option MeasClass :=
  (MeasClass.ofCode b.toNat).bind fun k => if k = .level then none else some k

/-- The request would make a new entry that takes no place (R86). -/
def State.recheckRefused (c : Nat) (k : MeasClass) (u : Urgency) (s : State) : Bool :=
  !s.recheckOnPath c k && !(s.recheckQueue.any fun x => x.of c k)
    && decide (Config.recheckPlaces ≤ s.recheckQueue.length)
    && (match u with
        | .routine => true
        | .urgent => s.recheckQueue.all Recheck.isUrgent)

/-- The checks of RECHECK (R86). -/
def checkRecheck (body : List Byte) (s : State) : Checked (Nat × MeasClass × Urgency) :=
  match body with
  | [c, k, u] => do
    let cls ← field 2 (recheckClass? k)
    let urgency ← field 3 (Urgency.ofCode u.toNat)
    let _ ← exists? (s.carrier c.toNat)
    refuseIf (!s.enabled c.toNat) .wrongState
    refuseIf (s.recheckRefused c.toNat cls urgency) .noRoom
    .ok (c.toNat, cls, urgency)
  | _ => badLength

def handleRecheck (body : List Byte) (s : State) : Answer × State :=
  carryOutOk (checkRecheck body s) (fun o s => s.requestRecheck o.1 o.2.1 o.2.2 .probe) s

end Sys2Proof.Machine
end

