-- ==== Sys2Proof/Machine/Records.lean ====
section
/-! DEFINITION. The records the Control Link returns (Tables 13-6 to 13-8, Table 12-3) and the reads that
return them (R127, R184). -/
namespace Sys2Proof.Machine

/-! ## Fields -/

def stampField (x : Option Stamp) : List Byte := fieldOr 4 (x.map stampBytes)

def byteField (x : Option Nat) : Byte := byteOf (x.getD 0)

def candField (x : Option CandName) : List Byte := fieldOr 3 (x.map CandName.bytes)

def Meas.bytes (m : Meas) : List Byte :=
  [byteOf m.cls.code, byteOf m.window, byteOf m.leadIn, flagByte m.release, byteOf m.requester.code]

def measField (x : Option Meas) : List Byte := fieldOr 5 (x.map Meas.bytes)

/-! ## Records of Table 13-7 -/

/-- Carrier record. -/
def State.carrierRecord (s : State) (c : Nat) : List Byte :=
  match s.carrier c with
  | none => padTo 36 [byteOf c]
  | some x =>
    let r := x.reception
    let k := x.content
    [byteOf c, 1, flagByte x.plan.enabled, byteOf x.plan.feed.1] ++ le32 x.plan.frequency ++ settingBytes x.plan.setting
      ++ le16 x.plan.rate ++ [byteOf x.plan.modulation.code, byteOf r.state.code,
        byteOf (presence [r.scoredAt.isSome, r.levelAvg.isSome, k.identity.isSome, k.version.isSome])]
      ++ halfOr r.standing ++ halfOr r.lastScore ++ stampField r.scoredAt
      ++ [byteOf r.samples, byteOf r.misses, byteField r.levelAvg] ++ halfOr r.merAvg ++ [byteOf k.state.code]
      ++ fieldOr 4 (k.identity.map fun m => le16 m.network ++ le16 m.stream) ++ [byteField k.version, flagByte k.truncated, 0]

/-- Feed record. -/
def State.feedRecord (s : State) (f : Fin 6) : List Byte :=
  let x := s.feed f
  [byteOf f.1, byteOf x.kind.code, flagByte x.supply, byteOf x.preference, byteOf x.state.code] ++ settingBytes x.setting
    ++ [byteOf (s.users f), byteOf x.faultCount, byteOf x.waiting.length]
    ++ (x.waiting.map fun p => byteOf p.1) ++ List.replicate (8 - x.waiting.length) 0xFF
    ++ [flagByte x.lastTuneStart.isSome] ++ stampField x.lastTuneStart ++ [0]

/-- Path record. -/
def State.pathRecord (s : State) (p : Fin 8) : List Byte :=
  let x := s.path p
  let carried := x.heldTune.bind (·.meas)
  [byteOf p.1, byteOf x.mode.code, byteOr (x.pendingMode.map (·.code)), byteOf x.state.code]
    ++ le16 (presence [x.tuned.isSome, x.posted.isSome, x.window.isSome, x.held.isSome, x.heldTune.isSome,
        carried.isSome, x.tuneStart.isSome, x.earliestDetach.isSome, x.releaseTime.isSome])
    ++ [byteField x.tuned, byteOr (x.tuneRequester.map (·.code))] ++ measField x.posted
    ++ fieldOr 7 (x.window.map fun w => w.meas.bytes ++ [byteOf w.leadDone, byteOf w.counted]) ++ measField x.held
    ++ fieldOr 2 (x.heldTune.map fun t => [byteOf t.carrier, byteOf t.requester.code]) ++ measField carried
    ++ stampField x.tuneStart ++ stampField x.earliestDetach ++ stampField x.releaseTime
    ++ [flagByte x.resultOutstanding, 0, 0, 0]

/-- List record (records 0 to 7). The descriptor fields of a list without a descriptor are absent in the way
R193 gives for their sizes and ranges (DEDUCED, assumption log 9). -/
def State.listRecord (s : State) (n : Fin 8) : List Byte :=
  let l := s.sweep n
  let e := l.loan.map (·.entry)
  [byteOf n.1, flagByte l.descriptor.isSome] ++ halfOr (l.descriptor.map (·.first)) ++ halfOr (l.descriptor.map (·.length))
    ++ [byteField (l.descriptor.map (·.passes)), byteOr (l.descriptor.map fun d => (flagByte d.rechecks).toNat),
      byteOf l.state.code] ++ le16 l.position ++ [byteOf l.pass] ++ le16 l.rest
    ++ [flagByte l.allSkipped, byteOf l.stage.code] ++ halfOr l.seek
    ++ [byteField (e.map (·.carrier)), byteOr (e.map (·.cls.code)), byteOr (e.map (·.urgency.code)),
      byteOr (e.map (·.reason.code)), byteOr (l.resume.map (·.code)), byteOr (l.doneReason.map (·.code))]

/-- Recheck place (records 8 to 31), the n-th place of the queue from its head. The enumerations of an empty place are
sent as absent, its carrier and its arrival time as 0 (DEDUCED, assumption log 39). -/
def State.recheckRecord (s : State) (n : Nat) : List Byte :=
  padTo 24
    (match s.recheckQueue[n]? with
     | some e =>
       [byteOf (8 + n), 1, byteOf e.carrier, byteOf e.cls.code, byteOf e.urgency.code, byteOf e.reason.code]
         ++ stampBytes e.arrival
     | none => [byteOf (8 + n), 0, 0, 0xFF, 0xFF, 0xFF])

/-- A record of READ_LISTS (R73). -/
def State.listsRecord (s : State) (n : Nat) : List Byte :=
  match fin? 8 n with
  | some l => s.listRecord l
  | none => s.recheckRecord (n - 8)

def Pair.bytes (p : Pair) : List Byte := le16 p.network ++ le16 p.serviceId

/-- Pairs bound to a key, in ascending order (R195). -/
def State.pairsOf (s : State) (key : Nat) : List Pair :=
  (s.bindings.filter fun b => decide (b.key = key)).map (·.pair)

/-- Service record. -/
def State.serviceRecord (s : State) (key : Nat) (v : Service) : List Byte :=
  let pairs := s.pairsOf key
  le16 key ++ [if v.pair.isSome then 1 else 0, flagByte v.pair.isSome] ++ fieldOr 4 (v.pair.map Pair.bytes)
    ++ [byteOf v.kind.code] ++ nameBytes v.name ++ [byteOf v.cands.length] ++ le16 pairs.length
    ++ (pairs.take 240).flatMap Pair.bytes

/-- Flags of a candidate. -/
def Candidate.flags (x : Candidate) : Byte := byteOf (presence [x.absent, x.scrambled, x.running, x.orphan])

/-- Candidates record. -/
def State.candidatesRecord (s : State) (key : Nat) (v : Service) : List Byte :=
  le16 key ++ [byteOf v.cands.length]
    ++ (s.ranked key).flatMap fun x =>
      x.name.bytes ++ [x.flags, byteOf (s.group x).code] ++ halfOr (s.standing x.name.carrier)

/-- Slot record. The bits of its presence field stand in the order in which Table 13-7 names them, the last target's
before the last order tag's (DESIGN CHOICE, assumption log 38). -/
def State.slotRecord (s : State) (i : Fin 64) : List Byte :=
  let x := s.slot i
  byteOf i.1 :: halfOr (x.binding.map (·.key))
    ++ [byteOr (x.binding.map (·.shelf.1)), byteOr (x.binding.map (·.output.1)), flagByte x.scrambledAllowed,
      byteOf x.state.code, flagByte x.pinned,
      byteOf (presence [x.active.isSome, x.target.isSome, x.challenger.isSome, x.holdEnd.isSome, x.bar.isSome,
        x.lastTarget.isSome, x.lastTag.isSome])]
    ++ candField x.active ++ candField x.target ++ candField x.challenger ++ [byteOf x.wins] ++ stampField x.holdEnd
    ++ candField (x.bar.map (·.cand)) ++ stampField (x.bar.map (·.until')) ++ [byteOf x.failures,
      byteOr (x.lastReason.map (·.code)), x.lastTag.getD 0] ++ candField x.lastTarget

/-! ## Status and notices -/

/-- The eight bytes of a shelf in the status record (Table 13-8). The tag is sent as 0 when nothing is in flight
(DEDUCED, assumption log 26). -/
def Shelf.status (x : Shelf) : List Byte :=
  [byteOf x.state.code, byteOf x.timeouts, x.nextTag, byteOf x.queue.length]
    ++ (match x.inFlight with
        | some f => [f.order.tag, byteOf f.order.kind.code, byteOf f.order.output.1, byteOf f.stage.code]
        | none => [0, 0xFF, 0xFF, 0xFF])

/-- Status record. -/
def State.statusRecord (s : State) : List Byte :=
  le32 s.summary.toNat
    ++ [byteOf s.survey.code, byteOf s.urgentCount, byteOf s.routineCount, byteOf s.overflowCount,
      flagByte s.overflowMarker, byteOf s.params.watermark, byteOf s.recheckQueue.length]
    ++ le16 s.carriers.length ++ le16 s.services.length ++ le16 s.bindings.length ++ le16 s.poolSize
    ++ [byteOf (countWhere (fun i => decide ((s.slot i).state ≠ .vacant)) allSlots)]
    ++ allShelves.flatMap (fun h => (s.shelf h).status) ++ stampBytes s.clock

/-- Notice record (Table 13-6). -/
def noticeBytes (code : Nat) (u : Urgency) (object count : Nat) (t : Stamp) (detail : List Byte) : List Byte :=
  [byteOf code, byteOf u.code] ++ le16 object ++ [byteOf count] ++ stampBytes t ++ byteOf detail.length :: padTo 16 detail

def Notice.bytes (n : Notice) : List Byte :=
  noticeBytes n.kind.code n.kind.urgency n.object n.count n.stamp n.detail

/-- The NOTICE_OVERFLOW record made at a fetch (R189). -/
def State.overflowRecord (s : State) : List Byte :=
  noticeBytes overflowCode .routine 0 1 s.overflowTime [byteOf s.overflowCount]

/-! ## The parameter set (Table 13-5) -/

def LevelWindow.bytes (w : LevelWindow) : List Byte := le16 w.lmin ++ le16 w.lmax

def Params.bytes (P : Params) : List Byte :=
  ([P.settleTerrestrial, P.settleCable, P.settleSatellite, P.lockTimeout, P.minOccupancy, P.releaseRecovery,
    P.tuneSpacing, P.feedSettle, P.contentTimeout, P.smoothing, P.margin, P.winCount, P.holdDown, P.staleLimit,
    P.missLimit, P.recheckWindow, P.watermark, P.prescaler] ++ P.requiredMer.toList).flatMap le16
    ++ P.windowTerrestrial.bytes ++ P.windowCable.bytes ++ P.windowSatellite.bytes

/-! ## Reads (R127, R184) -/

/-- Whole records from the first, up to `room` bytes and `count` records. -/
def fitRecords : Nat → Nat → List (List Byte) → List (List Byte)
  | _, _, [] => []
  | 0, _, _ => []
  | count + 1, room, r :: rest =>
    if r.length ≤ room then r :: fitRecords count (room - r.length) rest else []

/-- Bytes of a read reply before its records: the code, the count and the clock reading. -/
def readHead : Nat := 6

/-- The answer of a read: records returned, clock reading, records (Table 13-5). -/
def State.readAnswer (count : Nat) (records : List (List Byte)) (s : State) : Answer :=
  let l := fitRecords count (Config.maxBody - readHead) records
  Answer.ok (byteOf l.length :: stampBytes s.clock ++ l.flatten)

/-- A table read of first record and count, over a table numbered below `top` (R184). -/
def State.tableRead (top : Nat) (record : Nat → List Byte) (body : List Byte) (s : State) : Answer :=
  match body with
  | [first, count] =>
    if top ≤ first.toNat then Answer.range 1
    else if count = 0 then Answer.range 2
    else s.readAnswer count.toNat (((List.range top).drop first.toNat).map record)
  | _ => Answer.refuse .badLength

/-- A read of services by first key and count (R127). -/
def State.serviceRead (record : Nat → Service → List Byte) (body : List Byte) (s : State) : Answer :=
  match body with
  | [k0, k1, count] =>
    if count = 0 then Answer.range 2
    else
      s.readAnswer count.toNat
        ((s.services.filter fun e => decide (num16 k0 k1 ≤ e.1)).map fun e => record e.1 e.2)
  | _ => Answer.refuse .badLength

end Sys2Proof.Machine
end

