-- ==== Sys2Proof/Machine/ParamRequests.lean ====
section
/-! DEFINITION. PARAM_SET (R185) and PARAM_GET (R186), over the parameter set of Table 12-3. -/
namespace Sys2Proof.Machine

/-- An item of a PARAM_SET body: a number and one value, or for a level window two. -/
inductive ParamItem where
  | one (number value : Nat)
  | two (number lmin lmax : Nat)
deriving DecidableEq, Repr

/-- Numbers of the level windows. -/
def isWindow (number : Nat) : Bool := decide (27 ≤ number ∧ number ≤ 29)

/-- A body divided into items (R185). -/
def paramItems : List Byte → Option (List ParamItem)
  | [] => some []
  | [_] => none
  | [_, _] => none
  | [n, a, b] => if isWindow n.toNat then none else some [.one n.toNat (num16 a b)]
  | [_, _, _, _] => none
  | n :: a :: b :: c :: d :: r =>
    if isWindow n.toNat then (paramItems r).map (.two n.toNat (num16 a b) (num16 c d) :: ·)
    else (paramItems (c :: d :: r)).map (.one n.toNat (num16 a b) :: ·)

/-- Range of the one-valued parameters marked "refused" in Table 12-3. -/
def refusedRange : Nat → Option (Nat × Nat)
  | 1 | 2 | 3 => some (10, 500)
  | 4 => some (50, 1000)
  | 5 => some (50, 2000)
  | 6 => some (5, 200)
  | 7 => some (0, 100)
  | 8 => some (10, 200)
  | 9 => some (500, 10000)
  | 18 => some (0, 255)
  | _ => none

/-- The place of an item's first failing field within the item, counted from 0 (R94, R185). -/
def ParamItem.fault : ParamItem → Option Nat
  | .one n v =>
    if n < 1 ∨ 29 < n then some 0
    else match refusedRange n with
      | some (lo, hi) => if v < lo ∨ hi < v then some 1 else none
      | none => none
  | .two _ lo hi => if 240 < lo then some 1 else if 240 < hi ∨ hi ≤ lo then some 2 else none

/-- Fields of an item. -/
def ParamItem.fields : ParamItem → Nat
  | .one _ _ => 2
  | .two _ _ _ => 3

/-- Number of the first failing field of a body whose next field has number `n` (R185). -/
def failingField : Nat → List ParamItem → Option Nat
  | _, [] => none
  | n, i :: r =>
    match i.fault with
    | some k => some (n + k)
    | none => failingField (n + i.fields) r

/-- The timing parameters (Table 12-3). -/
def ParamItem.timing : ParamItem → Bool
  | .one n _ => decide (1 ≤ n ∧ n ≤ 9)
  | .two _ _ _ => false

/-- A value clamped into a range. -/
def clamp (lo hi n : Nat) : Nat := max lo (min hi n)

/-- An item written (Table 12-3, R93, R185). -/
def Params.write (P : Params) : ParamItem → Params
  | .one n v =>
    match n with
    | 1 => { P with settleTerrestrial := v }
    | 2 => { P with settleCable := v }
    | 3 => { P with settleSatellite := v }
    | 4 => { P with lockTimeout := v }
    | 5 => { P with minOccupancy := v }
    | 6 => { P with releaseRecovery := v }
    | 7 => { P with tuneSpacing := v }
    | 8 => { P with feedSettle := v }
    | 9 => { P with contentTimeout := v }
    | 10 => { P with smoothing := clamp 1 16 v }
    | 11 => { P with margin := min 300 v }
    | 12 => { P with winCount := clamp 1 15 v }
    | 13 => { P with holdDown := min 3600 v }
    | 14 => { P with staleLimit := clamp 10 3600 v }
    | 15 => { P with missLimit := clamp 1 15 v }
    | 16 => { P with recheckWindow := if v = 8 then 8 else 4 }
    | 17 => { P with watermark := if 1 ≤ v ∧ v ≤ 31 then v else P.watermark }
    | 18 => { P with prescaler := v }
    | _ =>
      match fin? 8 (n - 19) with
      | some m => if n < 19 then P else { P with requiredMer := tabSet P.requiredMer m (min 400 v) }
      | none => P
  | .two n lo hi =>
    match n with
    | 27 => { P with windowTerrestrial := ⟨lo, hi⟩ }
    | 28 => { P with windowCable := ⟨lo, hi⟩ }
    | 29 => { P with windowSatellite := ⟨lo, hi⟩ }
    | _ => P

def ParamItem.number : ParamItem → Nat
  | .one n _ => n
  | .two n _ _ => n

/-- Every path is PARKED. -/
def State.allParked (s : State) : Bool := allPaths.all fun p => decide ((s.path p).state = .parked)

/-- A PARAM_SET that passes writes its items in body order; a written stale limit then re-times every FRESH
carrier (R102, R185; DEDUCED, assumption log 22). -/
def State.writeParams (l : List ParamItem) (s : State) : State :=
  let s := { s with params := l.foldl Params.write s.params }
  if l.any fun i => decide (i.number = 14) then s.retime else s

/-- The field number of an OUT_OF_RANGE reply to PARAM_SET. Table 13-5 gives it one byte; a number that does
not fit it is sent as a free value (DESIGN CHOICE, assumption log 4). -/
def State.fieldByte (n : Nat) (s : State) : Byte × State :=
  if n ≤ 255 then (byteOf n, s) else (Config.freeByte s.freeCount, { s with freeCount := s.freeCount + 1 })

/-- PARAM_SET (R185, R186). -/
def handleParamSet (body : List Byte) (s : State) : Answer × State :=
  match paramItems body with
  | none => (Answer.refuse .badLength, s)
  | some [] => (Answer.refuse .badLength, s)
  | some l =>
    match failingField 1 l with
    | some n =>
      let (b, t) := s.fieldByte n
      (⟨.outOfRange, b :: s.params.bytes⟩, t)
    | none =>
      if l.any ParamItem.timing && !(decide (s.survey = .stopped) && s.allParked) then
        (⟨.wrongState, s.params.bytes⟩, s)
      else
        let t := s.writeParams l
        (Answer.ok t.params.bytes, t)

/-- PARAM_GET (R186). -/
def handleParamGet (body : List Byte) (s : State) : Answer × State :=
  match body with
  | [] => (Answer.ok s.params.bytes, s)
  | _ => (Answer.refuse .badLength, s)

end Sys2Proof.Machine
end

