-- ==== Sys2Proof/Machine/PathRequests.lean ====
section
/-! DEFINITION. PATH_MODE (R32) and the probe requests (R51, R52). -/
namespace Sys2Proof.Machine

/-! ## PATH_MODE -/

/-- The checks of PATH_MODE (R32). -/
def checkPathMode (body : List Byte) (s : State) : Checked (Fin 8 × PathMode) :=
  match body with
  | [p, m] => do
    let path ← field 1 (fin? 8 p.toNat)
    let mode ← field 2 (PathMode.ofCode m.toNat)
    refuseIf (s.path path).pendingMode.isSome .busy
    .ok (path, mode)
  | _ => badLength

/-- A path that is not PARKED is given a pending mode and released; a list it was driven by is told first
(R32, R75). -/
def State.pendMode (p : Fin 8) (m : PathMode) (s : State) : State :=
  let was := (s.path p).mode
  let s := s.setPath p { s.path p with pendingMode := some m }
  let s := if was = .list then s.leaveList p else s
  s.takeRelease p

/-- PATH_MODE carried out (R32, R33). -/
def State.askMode (p : Fin 8) (m : PathMode) (s : State) : State :=
  if (s.path p).mode = m then s
  else match (s.path p).state with
    | .parked => (s.setMode p m).runEngine
    | _ => (s.pendMode p m).runEngine

def handlePathMode (body : List Byte) (s : State) : Answer × State :=
  carryOutOk (checkPathMode body s) (fun o s => s.askMode o.1 o.2) s

/-! ## Probe requests -/

/-- A path takes probe requests (R31). -/
def Path.probed (x : Path) : Bool := decide (x.mode = .manual ∧ x.pendingMode = none)

/-- The checks of PROBE_TUNE (R51). -/
def checkProbeTune (body : List Byte) (s : State) : Checked (Fin 8 × Nat) :=
  match body with
  | [p, c] => do
    let path ← field 1 (fin? 8 p.toNat)
    let _ ← exists? (s.carrier c.toNat)
    let x := s.path path
    refuseIf (!x.probed) .wrongState
    refuseIf (!x.canTune) .busy
    refuseIf (decide (x.state = .parked) && s.probeBlocked c.toNat) .feedBusy
    .ok (path, c.toNat)
  | _ => badLength

def handleProbeTune (body : List Byte) (s : State) : Answer × State :=
  carryOutOk (checkProbeTune body s) (fun o s => s.tune o.1 o.2 .probe none) s

/-- A refusal of a path by its own rule. -/
def refuseWith (x : Option ResultCode) : Checked Unit :=
  match x with
  | some code => .error (Answer.refuse code)
  | none => .ok ()

/-- The checks of PROBE_MEASURE (R52). -/
def checkProbeMeasure (body : List Byte) (s : State) : Checked (Fin 8 × Meas) :=
  match body with
  | [p, k, w, l, r] => do
    let path ← field 1 (fin? 8 p.toNat)
    let cls ← field 2 (MeasClass.ofCode k.toNat)
    let window ← field 3 (window? w)
    let leadIn ← field 4 (upTo? 3 l.toNat)
    let release ← field 5 (flag? r)
    refuseIf (!(s.path path).probed) .wrongState
    refuseWith (s.path path).measureRefusal
    .ok (path, ⟨cls, window, leadIn, release, .probe⟩)
  | _ => badLength

def handleProbeMeasure (body : List Byte) (s : State) : Answer × State :=
  carryOutOk (checkProbeMeasure body s) (fun o s => s.takeMeasure o.1 o.2) s

/-- The checks of PROBE_RELEASE (R52). -/
def checkProbeRelease (body : List Byte) (s : State) : Checked (Fin 8) :=
  match body with
  | [p] => do
    let path ← field 1 (fin? 8 p.toNat)
    refuseIf (!(s.path path).probed) .wrongState
    .ok path
  | _ => badLength

def handleProbeRelease (body : List Byte) (s : State) : Answer × State :=
  carryOutOk (checkProbeRelease body s) (fun p s => s.takeRelease p) s

end Sys2Proof.Machine
end

