-- ==== Sys2Proof/Machine/ReadRequests.lean ====
section
/-! DEFINITION. The table reads (R127, R184), NOTICE_FETCH (R189) and NOTICE_MASK (R190). -/
namespace Sys2Proof.Machine

/-- A record of a table whose numbers are checked against `n`. -/
def recordOf {n : Nat} (f : Fin n → List Byte) (i : Nat) : List Byte :=
  match fin? n i with
  | some x => f x
  | none => []

def handleReadCarriers (body : List Byte) (s : State) : Answer × State :=
  (s.tableRead 256 s.carrierRecord body, s)

def handleReadFeeds (body : List Byte) (s : State) : Answer × State :=
  (s.tableRead 6 (recordOf s.feedRecord) body, s)

def handleReadPaths (body : List Byte) (s : State) : Answer × State :=
  (s.tableRead 8 (recordOf s.pathRecord) body, s)

def handleReadLists (body : List Byte) (s : State) : Answer × State :=
  (s.tableRead 32 s.listsRecord body, s)

def handleReadServices (body : List Byte) (s : State) : Answer × State :=
  (s.serviceRead s.serviceRecord body, s)

def handleReadCandidates (body : List Byte) (s : State) : Answer × State :=
  (s.serviceRead s.candidatesRecord body, s)

def handleReadSlots (body : List Byte) (s : State) : Answer × State :=
  (s.tableRead 64 (recordOf s.slotRecord) body, s)

/-- READ_STATUS: the raw event summary is cleared once the reply has been built (R184). -/
def handleReadStatus (body : List Byte) (s : State) : Answer × State :=
  match body with
  | [] => (Answer.ok s.statusRecord, { s with summary := 0 })
  | _ => (Answer.refuse .badLength, s)

/-- The checks of NOTICE_FETCH (R189). -/
def checkNoticeFetch (body : List Byte) : Checked Nat :=
  match body with
  | [n] => field 1 (between? 1 16 n.toNat)
  | _ => badLength

/-- NOTICE_FETCH carried out (R189). -/
def State.fetchNotices (n : Nat) (s : State) : Answer × State :=
  let taken := s.notices.take n
  let t := { s with notices := s.notices.drop n }
  if s.overflowMarker ∧ taken.length < n then
    (Answer.ok (byteOf (taken.length + 1) :: taken.flatMap Notice.bytes ++ s.overflowRecord),
      { t with overflowCount := 0, overflowMarker := false })
  else (Answer.ok (byteOf taken.length :: taken.flatMap Notice.bytes), t)

def handleNoticeFetch (body : List Byte) (s : State) : Answer × State :=
  carryOut (checkNoticeFetch body) State.fetchNotices s

/-- The checks of NOTICE_MASK (R190). -/
def checkNoticeMask (body : List Byte) : Checked (NoticeKind × Bool) :=
  match body with
  | [k, w] => do
    let kind ← field 1 (NoticeKind.ofCode k.toNat)
    let masked ← field 2 (flag? w)
    .ok (kind, masked)
  | _ => badLength

/-- NOTICE_MASK carried out (R190). -/
def State.maskNotice (k : NoticeKind) (masked : Bool) (s : State) : Answer × State :=
  let m := if masked then withKind s.masks k else withoutKind s.masks k
  (Answer.ok (le32 m.toNat), { s with masks := m })

def handleNoticeMask (body : List Byte) (s : State) : Answer × State :=
  carryOut (checkNoticeMask body) (fun o => State.maskNotice o.1 o.2) s

end Sys2Proof.Machine
end

