-- ==== Sys2Proof/Machine/Shelves.lean ====
section
/-! DEFINITION. The Route Link's side of the shelves' replies (R159 to R167), the timing of an order (R158,
R162), and its restart (R168). -/
namespace Sys2Proof.Machine

/-- Every valid reply shows that the shelf is alive (R163). -/
def Shelf.alive (x : Shelf) : Shelf :=
  { x with
    timeouts := 0
    state := match x.state with
      | .unknown => .online
      | .online => .online
      | .offline => .offline }

def State.alive (h : Fin 4) (s : State) : State := s.setShelf h (s.shelf h).alive

/-- The order in flight on a shelf bears the tag. -/
def Shelf.flying (tag : Byte) (x : Shelf) : Option Flight :=
  x.inFlight.bind fun f => if f.order.tag = tag then some f else none

/-- The order in flight on a shelf matches a reply in both tag and output (R160, R161). -/
def Shelf.matching (tag : Byte) (output : Fin 16) (x : Shelf) : Option Flight :=
  (x.flying tag).bind fun f => if f.order.output = output then some f else none

/-- The order in flight that a DONE completes (R160). One that a READY has put back completes with its own DONE, so a DONE
finds it queued still until its frame has gone out again (R165; DEDUCED, assumption log 48). -/
def Shelf.completing (tag : Byte) (output : Fin 16) (x : Shelf) : Option Flight :=
  (x.matching tag output).bind fun f => if f.order.putBack && f.onLine then none else some f

/-! ## The order cycle -/

/-- The frame of the order in flight has left the line: its accept timer starts (R158). ORDER_SENT counts for the order in
flight, whatever was being written before it (DESIGN CHOICE, assumption log 47). -/
def Flight.sent (now : Stamp) (f : Flight) : Flight :=
  if f.onLine then { f with timerEnd := some (now + ms Config.acceptMs) } else f

def State.orderSent (h : Fin 4) (s : State) : State :=
  s.setShelf h { s.shelf h with inFlight := (s.shelf h).inFlight.map (Flight.sent s.clock) }

/-- An ACCEPT against the order in flight (R159). -/
def Flight.accepted (now : Stamp) (f : Flight) : Flight :=
  match f.stage with
  | .awaitingAccept => { f with stage := .awaitingDone, timerEnd := some (now + ms Config.doneMs) }
  | .awaitingDone => f

/-- ACCEPT (R159). -/
def State.shelfAccept (h : Fin 4) (tag : Byte) (s : State) : State :=
  let s := s.alive h
  match (s.shelf h).flying tag with
  | some f => s.setShelf h { s.shelf h with inFlight := some (f.accepted s.clock) }
  | none => s

/-- The order in flight leaves the shelf. -/
def State.land (h : Fin 4) (s : State) : State := s.setShelf h { s.shelf h with inFlight := none }

/-- The slot to which a late DONE goes (R166). -/
def State.lateSlot (h : Fin 4) (output : Fin 16) (s : State) : Option (Fin 64) :=
  match s.slotOn h output with
  | some i => some i
  | none =>
    match tabGet (s.shelf h).lastOrdering output with
    | some i => if (s.slot i).state = .vacant then some i else none
    | none => none

/-- DONE (R160, R165, R166). -/
def State.shelfDone (h : Fin 4) (tag : Byte) (output : Fin 16) (s : State) : State :=
  let s := s.alive h
  match (s.shelf h).completing tag output with
  | some f =>
    let s := s.land h
    let s :=
      match f.order.kind with
      | .set i _ => s.routeDone i
      | .clear => s
    s.send h
  | none =>
    match s.lateSlot h output with
    | some i => s.lateDone i tag
    | none => s

/-- The failure of an order goes to its slot, and the shelf sends its next order (R161, R162). -/
def State.orderFails (h : Fin 4) (o : Order) (f : RouteFailure) (s : State) : State :=
  let s :=
    match o.kind with
    | .set i _ => s.routeFails i f
    | .clear => s
  s.send h

/-- REJECT (R161). -/
def State.shelfReject (h : Fin 4) (tag : Byte) (output : Fin 16) (reason : Nat) (s : State) : State :=
  let s := s.alive h
  match (s.shelf h).matching tag output with
  | some f => (s.land h).orderFails h f.order (.reject reason)
  | none => s

/-- Detail of SHELF_OFFLINE (Table 13-11). -/
def offlineDetail (f : Flight) : List Byte :=
  [f.order.tag, byteOf f.order.kind.code, byteOf f.order.output.1, byteOf f.stage.code]

/-- The order in flight has timed out (R162). -/
def State.orderTimesOut (h : Fin 4) (f : Flight) (s : State) : State :=
  let n := bump 3 (s.shelf h).timeouts
  let s := s.setShelf h { s.shelf h with inFlight := none, timeouts := n }
  let s :=
    if n = Config.offlineTimeouts then
      (s.setShelf h { s.shelf h with state := .offline }).post .shelfOffline h.1 (offlineDetail f)
    else s
  s.orderFails h f.order .timeout

/-- The timer of a stage has ended on a shelf (R162). -/
def State.shelfTimerEnd (h : Fin 4) (stage : Stage) (s : State) : State :=
  match (s.shelf h).inFlight with
  | some f => if f.stage = stage ∧ isDue s.clock f.timerEnd = true then s.orderTimesOut h f else s
  | none => s

/-- LOSS (R144, R167). -/
def State.shelfLoss (h : Fin 4) (output : Fin 16) (s : State) : State :=
  let s := s.alive h
  match s.slotOn h output with
  | some i =>
    match (s.slot i).active with
    | some n => s.applyMiss n.carrier .shelfLoss none
    | none => s
  | none => s

/-- A shelf that has started afresh: the order in flight goes back to the head of the queue (R165), and a DONE that the
shelf sent before finds it there (assumption log 48). -/
def Shelf.readied (x : Shelf) : Shelf :=
  { x with
    state := .online
    timeouts := 0
    inFlight := none
    queue := match x.inFlight with
      | some f => { f.order with putBack := true } :: x.queue
      | none => x.queue }

/-- READY (R165). -/
def State.shelfReady (h : Fin 4) (s : State) : State :=
  let before := (s.shelf h).state
  let s := s.setShelf h (s.shelf h).readied
  let s := s.post .shelfReady h.1 [byteOf before.code, byteOf (s.shelf h).queue.length]
  (s.resync h).send h

/-! ## Restart (R168) -/

/-- Orders in flight and queued are dropped. -/
def Shelf.dropped (x : Shelf) : Shelf := { x with queue := [], inFlight := none }

/-! ## Reply frames (R154, R197) -/

/-- A shelf reply with its fields in range. -/
inductive ShelfReply where
  | accept (tag : Byte)
  | done (tag : Byte) (output : Fin 16)
  | reject (tag : Byte) (output : Fin 16) (reason : Nat)
  | loss (output : Fin 16)
  | ready
deriving DecidableEq, Repr

/-- A REJECT reason lies in 1 to 15. -/
def rejectReason? (b : Byte) : Option Nat := between? 1 15 b.toNat

/-- The reply that a kind byte, a tag and a body carry (Table 13-10), or none where R154 discards it. -/
def ShelfReply.of (kind tag : Byte) (body : List Byte) : Option ShelfReply :=
  match body with
  | [] => if kind = 0x81 then some (.accept tag) else if kind = 0x85 then some .ready else none
  | [o] =>
    (fin? 16 o.toNat).bind fun output =>
      if kind = 0x82 then some (.done tag output) else if kind = 0x84 then some (.loss output) else none
  | [o, r] =>
    (fin? 16 o.toNat).bind fun output =>
      (rejectReason? r).bind fun reason => if kind = 0x83 then some (.reject tag output reason) else none
  | _ => none

/-- A valid reply is taken by the rule for its kind (R154). -/
def State.takeReply (h : Fin 4) (r : ShelfReply) (s : State) : State :=
  match r with
  | .accept tag => s.shelfAccept h tag
  | .done tag output => s.shelfDone h tag output
  | .reject tag output reason => s.shelfReject h tag output reason
  | .loss output => s.shelfLoss h output
  | .ready => s.shelfReady h

/-- A complete shelf frame whose check value is correct: its reply is taken, or it is discarded (R154). -/
def State.shelfFrame (h : Fin 4) (kind tag : Byte) (body : List Byte) (s : State) : State :=
  match ShelfReply.of kind tag body with
  | some r => s.takeReply h r
  | none => s

end Sys2Proof.Machine
end

