-- ==== Sys2Proof/Machine/ServiceRequests.lean ====
section
/-! DEFINITION. ALIAS_BIND (R122), ALIAS_UNBIND (R125) and SERVICE_DROP (R126). -/
namespace Sys2Proof.Machine

/-- Candidates of a service to which slots refer. -/
def State.referredCount (s : State) (key : Nat) : Nat :=
  match s.service key with
  | some v => countWhere (fun x => s.referred x.name) v.cands
  | none => 0

/-- A bind would find no room (R122). -/
def State.bindRefused (s : State) (p : Pair) (key : Nat) : Bool :=
  decide (Config.pairPlaces ≤ s.bindings.length)
    || (match s.foundKey p with
        | none => (s.service key).isNone && decide (Config.servicePlaces ≤ s.services.length)
        | some found => decide (Config.candidatePlaces < s.referredCount key + s.referredCount found))

/-- The checks of ALIAS_BIND (R122). -/
def checkBind (body : List Byte) (s : State) : Checked (Pair × Nat) :=
  match body with
  | [n0, n1, i0, i1, k0, k1] => do
    let network := num16 n0 n1
    let serviceId ← field 2 (between? 1 0xFFFF (num16 i0 i1))
    let key ← field 3 (between? 1 0x7FFF (num16 k0 k1))
    let pair : Pair := ⟨network, serviceId⟩
    refuseIf (s.bindRefused pair key) .noRoom
    refuseIf (s.boundKey pair).isSome .duplicate
    .ok (pair, key)
  | _ => badLength

def handleBind (body : List Byte) (s : State) : Answer × State :=
  carryOutOk (checkBind body s) (fun o s => s.bindPair o.1 o.2) s

/-- The checks of ALIAS_UNBIND (R125). -/
def checkUnbind (body : List Byte) (s : State) : Checked Pair :=
  match body with
  | [n0, n1, i0, i1] => do
    let serviceId ← field 2 (between? 1 0xFFFF (num16 i0 i1))
    let pair : Pair := ⟨num16 n0 n1, serviceId⟩
    let _ ← exists? (s.boundKey pair)
    .ok pair
  | _ => badLength

/-- The binding of a pair is removed (R125). -/
def State.unbindPair (p : Pair) (s : State) : State :=
  { s with bindings := s.bindings.filter fun b => !decide (b.pair = p) }

def handleUnbind (body : List Byte) (s : State) : Answer × State :=
  carryOutOk (checkUnbind body s) State.unbindPair s

/-- A service key operand: a controller key or an automatic key (R126, R147). -/
def key? (a b : Byte) : Option Nat := between? 1 0x817F (num16 a b)

/-- The checks of SERVICE_DROP (R126). -/
def checkDrop (body : List Byte) (s : State) : Checked Nat :=
  match body with
  | [k0, k1] => do
    let key ← field 1 (key? k0 k1)
    let _ ← exists? (s.service key)
    refuseIf (!(s.boundSlots key).isEmpty) .inUse
    .ok key
  | _ => badLength

def handleDrop (body : List Byte) (s : State) : Answer × State :=
  carryOutOk (checkDrop body s) State.dropService s

end Sys2Proof.Machine
end

