-- ==== Sys2Proof/Machine/SlotRequests.lean ====
section
/-! DEFINITION. SLOT_SET (R147), SLOT_CLEAR (R148), SLOT_PIN (R149), SLOT_UNPIN (R150) and SLOT_RESUME
(R151). -/
namespace Sys2Proof.Machine

/-- The slot is in SWITCHING. -/
def Slot.switching (x : Slot) : Bool := decide (x.state = .switching)

/-- The slot operand of a request that carries nothing else. -/
def slotOperand (body : List Byte) : Checked (Fin 64) :=
  match body with
  | [i] => field 1 (fin? 64 i.toNat)
  | _ => badLength

/-- A service that a slot has stopped being bound to (R115, R146). -/
def State.unbound (b : Option SlotBinding) (s : State) : State :=
  match b with
  | some b => s.dropEmpty b.key
  | none => s

/-! ## SLOT_SET -/

structure SlotSetting where
  slot : Fin 64
  binding : SlotBinding
  scrambledAllowed : Bool
deriving DecidableEq, Repr

/-- The checks of SLOT_SET (R147). -/
def checkSlotSet (body : List Byte) (s : State) : Checked SlotSetting :=
  match body with
  | [i, k0, k1, h, o, a] => do
    let slot ← field 1 (fin? 64 i.toNat)
    let key ← field 2 (key? k0 k1)
    let shelf ← field 3 (fin? 4 h.toNat)
    let output ← field 4 (fin? 16 o.toNat)
    let scrambledAllowed ← field 5 (flag? a)
    let _ ← exists? (s.service key)
    refuseIf (s.slot slot).switching .busy
    refuseIf (s.outputTaken slot shelf output) .inUse
    .ok ⟨slot, ⟨key, shelf, output⟩, scrambledAllowed⟩
  | _ => badLength

/-- A slot record as SLOT_SET leaves it, before its evaluation (R147). -/
def Slot.setUp (o : SlotSetting) (x : Slot) : Slot :=
  { x with
    binding := some o.binding
    scrambledAllowed := o.scrambledAllowed
    active := none
    challenger := none
    holdEnd := none
    bar := none
    lastTag := none
    lastTarget := none
    wins := 0
    failures := 0
    pinned := false
    lastReason := some .host
    state := .seeking }

/-- SLOT_SET carried out (R147). What it lets go of is freed before the evaluation, and reported FREED after it
(R115; DEDUCED, assumption log 17). -/
def State.setSlotUp (o : SlotSetting) (s : State) : State :=
  let x := s.slot o.slot
  let s := s.setSlot o.slot (x.setUp o)
  let (s, freed) := s.letGo x.active
  let s := s.unbound x.binding
  let (s, more) := s.evaluate o.slot none
  s.handReports (freed ++ more)

def handleSlotSet (body : List Byte) (s : State) : Answer × State :=
  carryOutOk (checkSlotSet body s) State.setSlotUp s

/-! ## SLOT_CLEAR -/

/-- The checks of SLOT_CLEAR (R148). -/
def checkSlotClear (body : List Byte) (s : State) : Checked (Fin 64) := do
  let slot ← slotOperand body
  refuseIf (s.slot slot).switching .busy
  .ok slot

/-- SLOT_CLEAR carried out (R148): a slot that is bound hands over a CLEAR and is unbound. -/
def State.clearSlot (i : Fin 64) (s : State) : State :=
  let x := s.slot i
  match x.binding with
  | none => s
  | some b =>
    let s := s.handClear b.shelf b.output
    let s := s.setSlot i { Slot.cold with lastReason := some .host }
    let (s, freed) := s.letGo x.active
    let s := s.unbound x.binding
    s.handReports freed

def handleSlotClear (body : List Byte) (s : State) : Answer × State :=
  carryOutOk (checkSlotClear body s) State.clearSlot s

/-! ## SLOT_PIN, SLOT_UNPIN and SLOT_RESUME -/

/-- The candidate is in the slot's service; a VACANT slot has none (R149). -/
def State.inService (s : State) (x : Slot) (n : CandName) : Bool :=
  match x.binding with
  | some b => (s.candidateOf b.key n).isSome
  | none => false

/-- The checks of SLOT_PIN (R149). -/
def checkSlotPin (body : List Byte) (s : State) : Checked (Fin 64 × CandName) :=
  match body with
  | [i, c, i0, i1] => do
    let slot ← field 1 (fin? 64 i.toNat)
    let serviceId ← field 3 (between? 1 0xFFFF (num16 i0 i1))
    let n : CandName := ⟨c.toNat, serviceId⟩
    refuseIf (!s.inService (s.slot slot) n) .notFound
    refuseIf (s.slot slot).switching .busy
    .ok (slot, n)
  | _ => badLength

/-- A slot record as SLOT_PIN leaves it, before its order (R149). -/
def Slot.pin (n : CandName) (x : Slot) : Slot :=
  { x with
    pinned := true
    failures := 0
    challenger := none
    wins := 0
    bar := match x.bar with
      | some b => if b.cand = n then none else some b
      | none => none }

/-- SLOT_PIN carried out (R149). -/
def State.pinSlot (i : Fin 64) (n : CandName) (s : State) : State :=
  let x := (s.slot i).pin n
  if x.active = some n then s.setSlot i { x with state := .held }
  else (s.setSlot i x).giveOrder i n .pin

def handleSlotPin (body : List Byte) (s : State) : Answer × State :=
  carryOutOk (checkSlotPin body s) (fun o s => s.pinSlot o.1 o.2) s

/-- The checks of SLOT_UNPIN (R150). -/
def checkSlotUnpin (body : List Byte) (s : State) : Checked (Fin 64) := do
  let slot ← slotOperand body
  let x := s.slot slot
  refuseIf (!(decide (x.state = .held) || (x.switching && x.pinned))) .wrongState
  .ok slot

/-- SLOT_UNPIN carried out (R150). -/
def State.unpinSlot (i : Fin 64) (s : State) : State :=
  let x := s.slot i
  match x.state with
  | .held =>
    State.settleReports
      ((s.setSlot i { x with pinned := false, holdEnd := some (s.clock + s.holdDown), state := .onAir }).evaluate i none)
  | _ => s.setSlot i { x with pinned := false }

def handleSlotUnpin (body : List Byte) (s : State) : Answer × State :=
  carryOutOk (checkSlotUnpin body s) State.unpinSlot s

/-- The checks of SLOT_RESUME (R151). -/
def checkSlotResume (body : List Byte) (s : State) : Checked (Fin 64) := do
  let slot ← slotOperand body
  refuseIf (decide ((s.slot slot).state ≠ .fault)) .wrongState
  .ok slot

/-- SLOT_RESUME carried out (R151). -/
def State.resumeSlot (i : Fin 64) (s : State) : State :=
  let x := s.slot i
  State.settleReports
    ((s.setSlot i { x with failures := 0, state := if x.active.isSome then .onAir else .seeking }).evaluate i none)

def handleSlotResume (body : List Byte) (s : State) : Answer × State :=
  carryOutOk (checkSlotResume body s) State.resumeSlot s

end Sys2Proof.Machine
end

