-- ==== Sys2Proof/Machine/SurveyRequests.lean ====
section
/-! DEFINITION. SURVEY_START, SURVEY_PAUSE, SURVEY_RESUME and SURVEY_STOP (R171 to R174), and the request
RESTART (R176). -/
namespace Sys2Proof.Machine

/-- The check of a survey request, which carries no body: the survey is in one of the states that accept it. -/
def checkSurvey (accepts : List SurveyState) (body : List Byte) (s : State) : Checked Unit :=
  match body with
  | [] => refuseIf (!accepts.contains s.survey) .wrongState
  | _ => badLength

/-- Every list is changed, in list order. -/
def State.mapLists (f : Fin 8 → SweepList → SweepList) (s : State) : State :=
  allPaths.foldl (fun s n => s.setSweep n (f n (s.sweep n))) s

/-- A list with a descriptor as the survey enters RUNNING from STOPPED (R74, R171). -/
def SweepList.started (driven : Bool) (l : SweepList) : SweepList :=
  match l.descriptor with
  | none => l
  | some d =>
    { l with
      position := d.first
      pass := 1
      rest := 0
      allSkipped := true
      seek := none
      doneReason := none
      state := if driven then .running else .suspended
      resume := if driven then none else some .running }

/-- SURVEY_START carried out (R171). -/
def State.startSurvey (s : State) : State :=
  ((s.enterSurvey .running .request).mapLists fun n l => l.started (s.driven n)).runEngine

def handleSurveyStart (body : List Byte) (s : State) : Answer × State :=
  carryOutOk (checkSurvey [.stopped] body s) (fun _ => State.startSurvey) s

/-- SURVEY_PAUSE carried out (R172). -/
def State.pauseSurvey (s : State) : State :=
  (s.enterSurvey .paused .request).mapLists fun _ l => l.suspend

def handleSurveyPause (body : List Byte) (s : State) : Answer × State :=
  carryOutOk (checkSurvey [.running] body s) (fun _ => State.pauseSurvey) s

/-- SURVEY_RESUME carried out (R173). -/
def State.resumeSurvey (s : State) : State :=
  ((s.enterSurvey .running .request).mapLists fun n l => if s.driven n then l.unsuspend s.clock else l).runEngine

def handleSurveyResume (body : List Byte) (s : State) : Answer × State :=
  carryOutOk (checkSurvey [.paused] body s) (fun _ => State.resumeSurvey) s

/-- Every path whose mode field is LIST is sent RELEASE, in ascending path number (R174). -/
def State.releaseListPaths (s : State) : State :=
  allPaths.foldl (fun s p => if (s.path p).mode = .list then s.takeRelease p else s) s

/-- SURVEY_STOP carried out (R174, R175). -/
def State.stopSurvey (s : State) : State :=
  let s := (s.enterSurvey .stopping .request).mapLists fun _ l => l.cleared
  ({ s with recheckQueue := [] } : State).releaseListPaths.runEngine

def handleSurveyStop (body : List Byte) (s : State) : Answer × State :=
  carryOutOk (checkSurvey [.running, .paused] body s) (fun _ => State.stopSurvey) s

/-- A restart scope operand (Table 13-9). -/
def RestartScope.ofCode (b : Byte) : Option RestartScope :=
  if b = 0 then some .survey else if b = 1 then some .all else none

/-- The checks of RESTART (R176). -/
def checkRestart (body : List Byte) : Checked RestartScope :=
  match body with
  | [x] => field 1 (RestartScope.ofCode x)
  | _ => badLength

/-- RESTART is accepted; it is carried out once its reply has been sent (R176). -/
def handleRestart (body : List Byte) (s : State) : Answer × State :=
  carryOutOk (checkRestart body) (fun x s => { s with restarting := some x }) s

end Sys2Proof.Machine
end

