-- ==== Sys2Proof/Machine/Requests.lean ====
section
/-! DEFINITION. A request from its frame to its reply (R182, R183), the lines' characters (R154, R179,
R181), and the carrying out of a restart (R176 to R178). -/
namespace Sys2Proof.Machine

/-! ## Requests by kind (Table 13-2) -/

/-- What a request kind does with a body, or none where the kind is unknown. -/
def handlerOf (kind : Byte) : Option (List Byte → State → Answer × State) :=
  match kind.toNat with
  | 0x01 => some handlePlanPut
  | 0x02 => some handlePlanDisable
  | 0x03 => some handlePlanErase
  | 0x08 => some handleFeedSet
  | 0x09 => some handleFeedEnable
  | 0x10 => some handleParamSet
  | 0x11 => some handleParamGet
  | 0x18 => some handleListWrite
  | 0x19 => some handleListDefine
  | 0x1A => some handleListSeek
  | 0x20 => some handlePathMode
  | 0x21 => some handleProbeTune
  | 0x22 => some handleProbeMeasure
  | 0x23 => some handleProbeRelease
  | 0x28 => some handleRecheck
  | 0x30 => some handleSurveyStart
  | 0x31 => some handleSurveyPause
  | 0x32 => some handleSurveyResume
  | 0x33 => some handleSurveyStop
  | 0x34 => some handleRestart
  | 0x38 => some handleBind
  | 0x39 => some handleUnbind
  | 0x3A => some handleDrop
  | 0x40 => some handleSlotSet
  | 0x41 => some handleSlotClear
  | 0x42 => some handleSlotPin
  | 0x43 => some handleSlotUnpin
  | 0x44 => some handleSlotResume
  | 0x50 => some handleReadCarriers
  | 0x51 => some handleReadFeeds
  | 0x52 => some handleReadPaths
  | 0x53 => some handleReadLists
  | 0x54 => some handleReadServices
  | 0x55 => some handleReadCandidates
  | 0x56 => some handleReadSlots
  | 0x57 => some handleReadStatus
  | 0x60 => some handleNoticeFetch
  | 0x61 => some handleNoticeMask
  | _ => none

/-- A request is carried out whole, and its reply joins the sequence (R182). -/
def State.answer (r : Request) (s : State) : State :=
  match handlerOf r.kind with
  | some h =>
    let (a, t) := h r.body s
    t.owe (replyKind r.kind) r.tag a
  | none => s.owe (replyKind r.kind) r.tag (Answer.refuse .unknownKind)

/-- The frame input holds requests for a restart that is to be carried out first (R176). -/
def State.holdsRequests (s : State) : Bool := s.restarting.isSome || !s.waiting.isEmpty

/-- A request's frame cannot be taken: its length is above 1024 (R179), or four requests are outstanding
(R182). -/
def State.overruns (body : List Byte) (s : State) : Bool :=
  decide (Config.maxBody < body.length) || decide (Config.maxOutstanding ≤ s.outstanding)

/-- A frame in reception whose gap has passed is discarded (R179). -/
def State.linkGap (s : State) : State :=
  if s.frameInput.gapped s.clock then ({ s with frameInput := .hunting } : State).discardFrame else s

/-- A frame that is a request completes (R182): it is discarded as an overrun, waits for a restart, or is
taken at once. A request command is such a completion. A frame in reception whose gap has passed has been discarded before
it (R179, R181); any other is dropped (DESIGN CHOICE, assumption log 8). -/
def State.request (kind tag : Byte) (body : List Byte) (s : State) : State :=
  let s := { s.linkGap with frameInput := .hunting }
  if s.overruns body then s.discardFrame
  else if s.holdsRequests then { s with waiting := s.waiting ++ [.request ⟨kind, tag, body⟩] }
  else s.answer ⟨kind, tag, body⟩

/-! ## Characters on the lines -/

/-- What the Control Link does with what its receiver reports (R180 to R182). -/
def State.linkEvent (e : FrameEvent) (s : State) : State :=
  match e with
  | .none => s
  | .discard => s.discardFrame
  | .frame kind tag body => s.request kind tag body

/-- One character on CL-RX (R179). -/
def State.linkChar (c : LineChar) (s : State) : State :=
  let (x, e) := s.frameInput.char s.clock c
  ({ s with frameInput := x } : State).linkEvent e

/-- A run of characters on CL-RX, all at one reading of the clock (DESIGN CHOICE, assumption log 10). -/
def State.linkChars (l : List LineChar) (s : State) : State := l.foldl (fun s c => s.linkChar c) s.linkGap

/-- The receiver of a Shelf Line hunts again. -/
def State.shelfHunts (h : Fin 4) (s : State) : State := s.setShelf h { s.shelf h with input := .hunting }

/-- What the Route Link does with what a Shelf Line receiver reports (R154). -/
def State.shelfEvent (h : Fin 4) (e : FrameEvent) (s : State) : State :=
  match e with
  | .none => s
  | .discard => s
  | .frame kind tag body => s.shelfFrame h kind tag body

def State.shelfGap (h : Fin 4) (s : State) : State :=
  if (s.shelf h).input.gapped s.clock then s.shelfHunts h else s

/-- One character on a Shelf Line (R154). -/
def State.shelfChar (h : Fin 4) (c : LineChar) (s : State) : State :=
  let (x, e) := (s.shelf h).input.char s.clock c
  (s.setShelf h { s.shelf h with input := x }).shelfEvent h e

/-- A run of characters on a Shelf Line, all at one reading of the clock (DESIGN CHOICE, assumption log 10). -/
def State.shelfChars (h : Fin 4) (l : List LineChar) (s : State) : State :=
  l.foldl (fun s c => s.shelfChar h c) (s.shelfGap h)

/-- A whole reply frame of a shelf, its receiver hunting after it (R154). A frame in reception on the line is dropped, since
the two cannot share it (DESIGN CHOICE, assumption log 8). -/
def State.shelfReply (h : Fin 4) (kind tag : Byte) (body : List Byte) (s : State) : State :=
  (s.shelfHunts h).shelfFrame h kind tag body

/-! ## Restart -/

/-- Requests that waited for a restart are taken against the state it has left, in order, up to a further
RESTART (R176). A FRAME_ERROR takes its place behind the replies of those before it (R181). -/
def State.takeWaiting : List Awaiting → State → State
  | [], s => s
  | .frameError :: rest, s =>
    State.takeWaiting rest { s with waiting := rest, replies := s.replies ++ [frameErrorReply] }
  | .request r :: rest, s =>
    if s.restarting.isSome then s else State.takeWaiting rest (({ s with waiting := rest } : State).answer r)

/-- A measurement of a parked path ends ABORTED where a probe asked for it (R53). -/
def State.abortProbe (p : Fin 8) (c : Option Nat) (m : Option Meas) (s : State) : State :=
  match c, m with
  | some c, some m =>
    match m.requester with
    | .probe => s.toRequester (neverRan p c (some m) .probe .aborted s.clock)
    | .list | .recheck => s
  | _, _ => s

/-- A probe's running window ends ABORTED, with its figures (R53, R60). -/
def State.abortProbeWindow (p : Fin 8) (s : State) : State :=
  match (s.path p).tuned, (s.path p).window with
  | some c, some w =>
    match w.meas.requester with
    | .probe => s.toRequester (w.result p c .aborted none s.clock)
    | .list | .recheck => s
  | _, _ => s

/-- A path record after RESTART with scope SURVEY: PARKED, with its mode, or its pending mode (R53). -/
def Path.restarted (x : Path) : Path :=
  { Path.cold with
    mode := match x.pendingMode with
      | some m => m
      | none => x.mode }

/-- RESTART with scope SURVEY parks a path (R53). The rule does not order the ABORTED results of one path, whose
notices may join in one place of the queue: the window's comes first, then those of the posted measure, of the held one
and of the held tune's (DESIGN CHOICE, assumption log 44). -/
def State.restartPath (p : Fin 8) (s : State) : State :=
  let x := s.path p
  let s := s.abortProbeWindow p
  let s := s.abortProbe p x.tuned x.posted
  let s := s.abortProbe p x.tuned x.held
  let s := s.abortProbe p (x.heldTune.map (·.carrier)) (x.heldTune.bind (·.meas))
  s.setPath p x.restarted

/-- RESTART with scope SURVEY on a feed: its waiting list is emptied, its timers run on (R29). -/
def Feed.restarted (x : Feed) : Feed := { x with waiting := [] }

/-- RESTART with scope SURVEY (R177, Table 11-2): the survey, the paths, the lists and the Recheck Queue; the
Route Link, then the Lineup's new orders; last the Score Unit's reports. Where R177 leaves the order open it is the
model's (DEDUCED, assumption log 25). -/
def State.restartSurvey (s : State) : State :=
  let s := if s.survey = .stopped then s else s.enterSurvey .stopped .restart
  let s := { s with lists := tabMap SweepList.cleared s.lists, recheckQueue := [] }
  let s := allPaths.foldl (fun s p => s.restartPath p) s
  let s := { s with feeds := tabMap Feed.restarted s.feeds }
  let s := { s with shelves := tabMap Shelf.dropped s.shelves, slots := tabMap (fun x : Slot => { x with wins := 0 }) s.slots }
  let s := allSlots.foldl (fun s i => s.reorderSlot i) s
  s.restartScores

/-- Cold start (R178). The commands waiting and the count of free values used are the model's own. -/
def State.coldStart (s : State) : State :=
  { State.reset with pending := s.pending, freeCount := s.freeCount }

/-- RESTART with scope ALL (R178, R192): cold start, but for the Control Link's framing state, in which a frame partly
received is received on to its end, and the replies it owes to requests, and the requests that wait. The rules keep no
Shelf Line frame: each Shelf Line receiver hunts, as at power-on, and a shelf frame partly received is dropped (R155;
DESIGN CHOICE, assumption log 43). -/
def State.restartAll (s : State) : State :=
  { s.coldStart with
    frameInput := s.frameInput.kept s.clock
    replies := s.replies.filter Reply.toRequest
    waiting := s.waiting.filter Awaiting.isRequest }

/-- The OK reply to a RESTART has been sent: the restart is due (R176). -/
def State.restartDue (scope : RestartScope) (s : State) : Bool :=
  decide (s.restarting = some scope)
    && !(s.replies.any fun r => decide (r.kind = replyKind 0x34 ∧ r.code = .ok))

/-- A restart that is due is carried out with `act`, and the requests that waited for it are then taken (DEDUCED,
assumption log 13). -/
def State.carryRestart (scope : RestartScope) (act : State → State) (s : State) : State :=
  if s.restartDue scope then
    let t : State := { act s with restarting := none }
    t.takeWaiting t.waiting
  else s

end Sys2Proof.Machine
end

