-- ==== Sys2Proof/Machine/Events.lean ====
section
/-! DEFINITION. The events that no request or reply brings: the ends of the timers of feeds, paths, lists,
slots and the tick; blocks, sections and acquisitions; supply overcurrent. The end of a timer is taken where
the timer runs and the clock has reached its end; elsewhere it finds nothing (DESIGN CHOICE, assumption log 7). A timer that a step starts runs from the clock of the
step, and a chain of blocks or ticks from the end before (DEDUCED, assumption log 28). -/
namespace Sys2Proof.Machine

/-! ## Feeds (sections 3.4, 3.6) -/

/-- The setting settle ends (R20). -/
def State.settingSettles (f : Fin 6) (s : State) : State :=
  let x := s.feed f
  if x.state = .setting ∧ isDue s.clock x.settleEnd = true then
    (s.setFeed f { x with state := .on, settleEnd := none }).scan f
  else s

/-- The retry delay ends (R26). -/
def State.retryBegins (f : Fin 6) (s : State) : State :=
  let x := s.feed f
  if x.state = .fault ∧ isDue s.clock x.retryEnd = true then
    s.setFeed f { x with state := .retry, retryEnd := none, settleEnd := some (s.clock + ms s.params.feedSettle) }
  else s

/-- The retry settle ends (R26, R28). -/
def State.retrySettles (f : Fin 6) (s : State) : State :=
  let x := s.feed f
  if x.state = .retry ∧ isDue s.clock x.settleEnd = true then
    (s.setFeed f { x with state := .on, settleEnd := none, clearEnd := some (s.clock + ms Config.clearMs) }).serve f
  else s

/-- The fault count is cleared (R28). -/
def State.faultsCleared (f : Fin 6) (s : State) : State :=
  let x := s.feed f
  if isDue s.clock x.clearEnd then s.setFeed f { x with faultCount := 0, clearEnd := none } else s

/-- Supply overcurrent (R25 to R27). Paths that waited on a feed that falls to OFF are cut off in arrival
order. -/
def State.overcurrent (f : Fin 6) (s : State) : State :=
  let x := s.feed f
  if x.supplied then
    if x.faultCount < 3 then s.feedFault f
    else (x.waiting.foldl (fun s p => s.cutOff p) (s.feedFall f)).runEngine
  else s

/-! ## Paths (sections 4.3 to 4.5, chapter 5) -/

/-- A tune start held by tune spacing falls (R21, R36). -/
def State.tuneStarts (p : Fin 8) (s : State) : State :=
  let x := s.path p
  match x.state, x.tap with
  | .waitFeed, some f => if isDue s.clock x.tuneDue then s.startTune p f else s
  | _, _ => s

/-- The settle timer ends (R37). -/
def State.settles (p : Fin 8) (s : State) : State :=
  let x := s.path p
  if x.state = .settling ∧ isDue s.clock x.settleEnd = true then
    s.setPath p { x with state := .locking, settleEnd := none, lockEnd := some (s.clock + ms s.params.lockTimeout) }
  else s

/-- The demodulator reports acquisition (R24, R37). In another state than LOCKING it finds nothing (DEDUCED, assumption
log 29). -/
def State.acquires (p : Fin 8) (s : State) : State :=
  if (s.path p).state = .locking ∧ s.tapDead p = false then s.lock p else s

/-- The lock timeout ends (R38). -/
def State.lockTimesOut (p : Fin 8) (s : State) : State :=
  let x := s.path p
  if x.state = .locking ∧ isDue s.clock x.lockEnd = true then (s.lockFails p).runEngine else s

/-- A block ends (R54 to R59). The next block of the window begins at the end of this one. A block during which the
feed changed state is judged whole by the feed's state at its end (R24; DESIGN CHOICE, assumption log 36). -/
def State.blockEnds (p : Fin 8) (b : BlockSample) (s : State) : State :=
  let x := s.path p
  match x.state, x.window, x.blockEnd with
  | .measuring, some w, some e =>
    if reached s.clock e then
      if w.leadDone < w.lead then s.endLeadIn p w e
      else (s.endCounted p w (BlockSample.read b (s.tapDead p)) e).runEngine
    else s
  | _, _, _ => s

/-- A completed read ends with the announcement it built (R63, R64). -/
def State.completeRead (p : Fin 8) (a : Announcement) (s : State) : State :=
  s.endWindow p (if a.truncated then .truncated else .complete) (some a) s.clock

/-- An announcement section arrives (R62, R63). On a feed without signal none is gathered (DEDUCED, assumption log 29). -/
def State.sectionArrives (p : Fin 8) (sec : AnnouncementSection) (s : State) : State :=
  let x := s.path p
  match x.state, x.window, x.window.bind (·.gathering) with
  | .measuring, some w, some g =>
    if s.tapDead p then s
    else
      let g := g.take sec
      let s := s.setPath p { x with window := some { w with gathering := some g } }
      if g.complete then
        match g.announcement with
        | some a => (s.completeRead p a).runEngine
        | none => s
      else s
  | _, _, _ => s

/-- The content timeout ends (R66). -/
def State.contentTimesOut (p : Fin 8) (s : State) : State :=
  let x := s.path p
  match x.state, x.window.bind (·.gathering) with
  | .measuring, some _ =>
    if isDue s.clock x.contentEnd then (s.endWindow p .incomplete none s.clock).runEngine else s
  | _, _ => s

/-- The earliest detach passes (R47). -/
def State.detachPasses (p : Fin 8) (s : State) : State :=
  if (s.path p).state = .releasing then (s.tryDetach p).runEngine else s

/-- The release recovery ends (R48). -/
def State.recovers (p : Fin 8) (s : State) : State :=
  let x := s.path p
  if x.state = .recovering ∧ isDue s.clock x.recoveryEnd = true then
    match x.heldTune with
    | some t => (s.startHeldTune p t).runEngine
    | none => (s.enterParked p).runEngine
  else s

/-! ## Lists and the tick (R79 to R81) -/

/-- A tick ends and the next begins (R80, R81). -/
def State.tickEnds (s : State) : State :=
  if reached s.clock s.tickEnd then
    { s with
      lists := tabMap (SweepList.countTick s.tickEnd) s.lists
      tickEnd := s.tickEnd + ms ((s.params.prescaler + 1) * 10) }
  else s

/-- A rest has run out (R79). It is a step of its own, for a rest of 0 too (DESIGN CHOICE, assumption log 16). -/
def State.restEnds (n : Fin 8) (s : State) : State :=
  if (s.sweep n).state = .resting ∧ (s.sweep n).rest = 0 then (s.advance n).runEngine else s

/-! ## Carriers and slots (R101, R140) -/

/-- A stale timer ends (R101). -/
def State.staleEnds (c : Nat) (s : State) : State :=
  match s.carrier c with
  | some x => if isDue s.clock x.reception.staleEnd then s.ageCarrier c else s
  | none => s

def State.holdDownPasses (i : Fin 64) (s : State) : State :=
  if isDue s.clock (s.slot i).holdEnd then s.holdDownEnds i else s

def State.barPasses (i : Fin 64) (s : State) : State :=
  if isDue s.clock ((s.slot i).bar.map (·.until')) then s.barEnds i else s

end Sys2Proof.Machine
end

