-- ==== Sys2Proof/Machine/LinkCommands.lean ====
section
/-! DEFINITION. The meanings of the Control Link's line events, of the two restarts and of the two cold starts. -/
namespace Sys2Proof.Machine

/-- UNKNOWN_KIND: a request frame whose kind byte Table 13-2 does not list (R182). A kind that is listed is
taken as that request (DESIGN CHOICE, assumption log 12). -/
def execUnknownKind (kind tag : Byte) (body : List Byte) (s : State) : Host.Outcome State Fault Refusal :=
  .next (s.request kind tag body)

/-- FRAME_ERROR: characters on CL-RX, in which frames are discarded (R179 to R181). -/
def execFrameError (chars : List LineChar) (s : State) : Host.Outcome State Fault Refusal :=
  .next (s.linkChars chars)

/-- FRAME_GAP_TIMEOUT: more than 20 ms have passed within a frame, which is discarded (R179, R181). -/
def execFrameGapTimeout (s : State) : Host.Outcome State Fault Refusal :=
  .next (s.linkGap)

/-- REPLY_SENT: the last byte of the reply at the head of the sequence has been sent (R182). How long a frame takes on
the line is not modelled (DESIGN CHOICE, assumption log 30). -/
def execReplySent (s : State) : Host.Outcome State Fault Refusal :=
  .next (({ s with replies := s.replies.tail } : State))

/-- RESTART_SURVEY: RESTART with scope SURVEY is carried out (R176, R177). -/
def execRestartSurvey (s : State) : Host.Outcome State Fault Refusal :=
  .next (s.carryRestart .survey State.restartSurvey)

/-- RESTART_ALL: RESTART with scope ALL is carried out (R176, R178). -/
def execRestartAll (s : State) : Host.Outcome State Fault Refusal :=
  .next (s.carryRestart .all State.restartAll)

/-- RESET: the RESET input brings the cold-start condition (R178). -/
def execReset (s : State) : Host.Outcome State Fault Refusal :=
  .next (s.coldStart)

/-- POWER_ON: power-on brings the cold-start condition (R178). -/
def execPowerOn (s : State) : Host.Outcome State Fault Refusal :=
  .next (s.coldStart)

end Sys2Proof.Machine
end

