-- ==== Sys2Proof/Machine/RequestCommands.lean ====
section
/-! DEFINITION. The meanings of the controller's requests, one for each request kind of Table 13-2. Each is
the completion of a frame of its kind (`State.request`), which is checked and carried out by the handler that
`handlerOf` names for the kind. -/
namespace Sys2Proof.Machine

/-- PLAN_PUT: a request frame with kind 0x01 completes; `handlePlanPut` carries it out (R5). -/
def execPlanPut (tag : Byte) (body : List Byte) (s : State) : Host.Outcome State Fault Refusal :=
  .next (s.request 0x01 tag body)

/-- PLAN_DISABLE: a request frame with kind 0x02 completes; `handlePlanDisable` carries it out (R8). -/
def execPlanDisable (tag : Byte) (body : List Byte) (s : State) : Host.Outcome State Fault Refusal :=
  .next (s.request 0x02 tag body)

/-- PLAN_ERASE: a request frame with kind 0x03 completes; `handlePlanErase` carries it out (R11). -/
def execPlanErase (tag : Byte) (body : List Byte) (s : State) : Host.Outcome State Fault Refusal :=
  .next (s.request 0x03 tag body)

/-- FEED_SET: a request frame with kind 0x08 completes; `handleFeedSet` carries it out (R16). -/
def execFeedSet (tag : Byte) (body : List Byte) (s : State) : Host.Outcome State Fault Refusal :=
  .next (s.request 0x08 tag body)

/-- FEED_ENABLE: a request frame with kind 0x09 completes; `handleFeedEnable` carries it out (R17). -/
def execFeedEnable (tag : Byte) (body : List Byte) (s : State) : Host.Outcome State Fault Refusal :=
  .next (s.request 0x09 tag body)

/-- PARAM_SET: a request frame with kind 0x10 completes; `handleParamSet` carries it out (R185). -/
def execParamSet (tag : Byte) (body : List Byte) (s : State) : Host.Outcome State Fault Refusal :=
  .next (s.request 0x10 tag body)

/-- PARAM_GET: a request frame with kind 0x11 completes; `handleParamGet` carries it out (R186). -/
def execParamGet (tag : Byte) (body : List Byte) (s : State) : Host.Outcome State Fault Refusal :=
  .next (s.request 0x11 tag body)

/-- LIST_WRITE: a request frame with kind 0x18 completes; `handleListWrite` carries it out (R71). -/
def execListWrite (tag : Byte) (body : List Byte) (s : State) : Host.Outcome State Fault Refusal :=
  .next (s.request 0x18 tag body)

/-- LIST_DEFINE: a request frame with kind 0x19 completes; `handleListDefine` carries it out (R72). -/
def execListDefine (tag : Byte) (body : List Byte) (s : State) : Host.Outcome State Fault Refusal :=
  .next (s.request 0x19 tag body)

/-- LIST_SEEK: a request frame with kind 0x1A completes; `handleListSeek` carries it out (R82). -/
def execListSeek (tag : Byte) (body : List Byte) (s : State) : Host.Outcome State Fault Refusal :=
  .next (s.request 0x1A tag body)

/-- PATH_MODE: a request frame with kind 0x20 completes; `handlePathMode` carries it out (R32). -/
def execPathMode (tag : Byte) (body : List Byte) (s : State) : Host.Outcome State Fault Refusal :=
  .next (s.request 0x20 tag body)

/-- PROBE_TUNE: a request frame with kind 0x21 completes; `handleProbeTune` carries it out (R51). -/
def execProbeTune (tag : Byte) (body : List Byte) (s : State) : Host.Outcome State Fault Refusal :=
  .next (s.request 0x21 tag body)

/-- PROBE_MEASURE: a request frame with kind 0x22 completes; `handleProbeMeasure` carries it out (R52). -/
def execProbeMeasure (tag : Byte) (body : List Byte) (s : State) : Host.Outcome State Fault Refusal :=
  .next (s.request 0x22 tag body)

/-- PROBE_RELEASE: a request frame with kind 0x23 completes; `handleProbeRelease` carries it out (R52). -/
def execProbeRelease (tag : Byte) (body : List Byte) (s : State) : Host.Outcome State Fault Refusal :=
  .next (s.request 0x23 tag body)

/-- RECHECK: a request frame with kind 0x28 completes; `handleRecheck` carries it out (R86). -/
def execRecheck (tag : Byte) (body : List Byte) (s : State) : Host.Outcome State Fault Refusal :=
  .next (s.request 0x28 tag body)

/-- SURVEY_START: a request frame with kind 0x30 completes; `handleSurveyStart` carries it out (R171). -/
def execSurveyStart (tag : Byte) (body : List Byte) (s : State) : Host.Outcome State Fault Refusal :=
  .next (s.request 0x30 tag body)

/-- SURVEY_PAUSE: a request frame with kind 0x31 completes; `handleSurveyPause` carries it out (R172). -/
def execSurveyPause (tag : Byte) (body : List Byte) (s : State) : Host.Outcome State Fault Refusal :=
  .next (s.request 0x31 tag body)

/-- SURVEY_RESUME: a request frame with kind 0x32 completes; `handleSurveyResume` carries it out (R173). -/
def execSurveyResume (tag : Byte) (body : List Byte) (s : State) : Host.Outcome State Fault Refusal :=
  .next (s.request 0x32 tag body)

/-- SURVEY_STOP: a request frame with kind 0x33 completes; `handleSurveyStop` carries it out (R174). -/
def execSurveyStop (tag : Byte) (body : List Byte) (s : State) : Host.Outcome State Fault Refusal :=
  .next (s.request 0x33 tag body)

/-- RESTART: a request frame with kind 0x34 completes; `handleRestart` carries it out (R176). -/
def execRestart (tag : Byte) (body : List Byte) (s : State) : Host.Outcome State Fault Refusal :=
  .next (s.request 0x34 tag body)

/-- ALIAS_BIND: a request frame with kind 0x38 completes; `handleBind` carries it out (R122). -/
def execAliasBind (tag : Byte) (body : List Byte) (s : State) : Host.Outcome State Fault Refusal :=
  .next (s.request 0x38 tag body)

/-- ALIAS_UNBIND: a request frame with kind 0x39 completes; `handleUnbind` carries it out (R125). -/
def execAliasUnbind (tag : Byte) (body : List Byte) (s : State) : Host.Outcome State Fault Refusal :=
  .next (s.request 0x39 tag body)

/-- SERVICE_DROP: a request frame with kind 0x3A completes; `handleDrop` carries it out (R126). -/
def execServiceDrop (tag : Byte) (body : List Byte) (s : State) : Host.Outcome State Fault Refusal :=
  .next (s.request 0x3A tag body)

/-- SLOT_SET: a request frame with kind 0x40 completes; `handleSlotSet` carries it out (R147). -/
def execSlotSet (tag : Byte) (body : List Byte) (s : State) : Host.Outcome State Fault Refusal :=
  .next (s.request 0x40 tag body)

/-- SLOT_CLEAR: a request frame with kind 0x41 completes; `handleSlotClear` carries it out (R148). -/
def execSlotClear (tag : Byte) (body : List Byte) (s : State) : Host.Outcome State Fault Refusal :=
  .next (s.request 0x41 tag body)

/-- SLOT_PIN: a request frame with kind 0x42 completes; `handleSlotPin` carries it out (R149). -/
def execSlotPin (tag : Byte) (body : List Byte) (s : State) : Host.Outcome State Fault Refusal :=
  .next (s.request 0x42 tag body)

/-- SLOT_UNPIN: a request frame with kind 0x43 completes; `handleSlotUnpin` carries it out (R150). -/
def execSlotUnpin (tag : Byte) (body : List Byte) (s : State) : Host.Outcome State Fault Refusal :=
  .next (s.request 0x43 tag body)

/-- SLOT_RESUME: a request frame with kind 0x44 completes; `handleSlotResume` carries it out (R151). -/
def execSlotResume (tag : Byte) (body : List Byte) (s : State) : Host.Outcome State Fault Refusal :=
  .next (s.request 0x44 tag body)

/-- READ_CARRIERS: a request frame with kind 0x50 completes; `handleReadCarriers` carries it out (R184). -/
def execReadCarriers (tag : Byte) (body : List Byte) (s : State) : Host.Outcome State Fault Refusal :=
  .next (s.request 0x50 tag body)

/-- READ_FEEDS: a request frame with kind 0x51 completes; `handleReadFeeds` carries it out (R184). -/
def execReadFeeds (tag : Byte) (body : List Byte) (s : State) : Host.Outcome State Fault Refusal :=
  .next (s.request 0x51 tag body)

/-- READ_PATHS: a request frame with kind 0x52 completes; `handleReadPaths` carries it out (R184). -/
def execReadPaths (tag : Byte) (body : List Byte) (s : State) : Host.Outcome State Fault Refusal :=
  .next (s.request 0x52 tag body)

/-- READ_LISTS: a request frame with kind 0x53 completes; `handleReadLists` carries it out (R184). -/
def execReadLists (tag : Byte) (body : List Byte) (s : State) : Host.Outcome State Fault Refusal :=
  .next (s.request 0x53 tag body)

/-- READ_SERVICES: a request frame with kind 0x54 completes; `handleReadServices` carries it out (R127). -/
def execReadServices (tag : Byte) (body : List Byte) (s : State) : Host.Outcome State Fault Refusal :=
  .next (s.request 0x54 tag body)

/-- READ_CANDIDATES: a request frame with kind 0x55 completes; `handleReadCandidates` carries it out (R127). -/
def execReadCandidates (tag : Byte) (body : List Byte) (s : State) : Host.Outcome State Fault Refusal :=
  .next (s.request 0x55 tag body)

/-- READ_SLOTS: a request frame with kind 0x56 completes; `handleReadSlots` carries it out (R184). -/
def execReadSlots (tag : Byte) (body : List Byte) (s : State) : Host.Outcome State Fault Refusal :=
  .next (s.request 0x56 tag body)

/-- READ_STATUS: a request frame with kind 0x57 completes; `handleReadStatus` carries it out (R184). -/
def execReadStatus (tag : Byte) (body : List Byte) (s : State) : Host.Outcome State Fault Refusal :=
  .next (s.request 0x57 tag body)

/-- NOTICE_FETCH: a request frame with kind 0x60 completes; `handleNoticeFetch` carries it out (R189). -/
def execNoticeFetch (tag : Byte) (body : List Byte) (s : State) : Host.Outcome State Fault Refusal :=
  .next (s.request 0x60 tag body)

/-- NOTICE_MASK: a request frame with kind 0x61 completes; `handleNoticeMask` carries it out (R190). -/
def execNoticeMask (tag : Byte) (body : List Byte) (s : State) : Host.Outcome State Fault Refusal :=
  .next (s.request 0x61 tag body)

end Sys2Proof.Machine
end

