-- ==== Sys2Proof/Machine/ShelfCommands.lean ====
section
/-! DEFINITION. The meanings of the shelves' replies and of the events of the Shelf Lines. -/
namespace Sys2Proof.Machine

/-- ACCEPT: a shelf has taken an order (R159). -/
def execAccept (shelf : Fin 4) (tag : Byte) (s : State) : Host.Outcome State Fault Refusal :=
  .next (s.shelfReply shelf 0x81 tag [])

/-- DONE: a shelf has carried an order out (R160). An output above 15 makes the frame one that R154 discards. -/
def execDone (shelf : Fin 4) (tag output : Byte) (s : State) : Host.Outcome State Fault Refusal :=
  .next (s.shelfReply shelf 0x82 tag [output])

/-- REJECT: a shelf refuses an order (R161). A field out of range makes the frame one that R154 discards. -/
def execReject (shelf : Fin 4) (tag output reason : Byte) (s : State) : Host.Outcome State Fault Refusal :=
  .next (s.shelfReply shelf 0x83 tag [output, reason])

/-- LOSS: a shelf output has lost its signal (R167); its tag byte is not read (R197). -/
def execLoss (shelf : Fin 4) (output : Byte) (s : State) : Host.Outcome State Fault Refusal :=
  .next (s.shelfReply shelf 0x84 0 [output])

/-- READY: a shelf has started afresh (R165); its tag byte is not read (R197). -/
def execReady (shelf : Fin 4) (s : State) : Host.Outcome State Fault Refusal :=
  .next (s.shelfReply shelf 0x85 0 [])

/-- SHELF_FRAME_DISCARD: characters on a Shelf Line, in which frames are discarded (R154). -/
def execShelfFrameDiscard (shelf : Fin 4) (chars : List LineChar) (s : State) : Host.Outcome State Fault Refusal :=
  .next (s.shelfChars shelf chars)

/-- ORDER_SENT: the frame of the order in flight has been sent (R158). How long a frame takes on the line is not
modelled (DESIGN CHOICE, assumption log 30). -/
def execOrderSent (shelf : Fin 4) (s : State) : Host.Outcome State Fault Refusal :=
  .next (State.orderSent shelf s)

/-- ACCEPT_TIMER_END: the accept timer ends (R162). -/
def execAcceptTimerEnd (shelf : Fin 4) (s : State) : Host.Outcome State Fault Refusal :=
  .next (s.shelfTimerEnd shelf .awaitingAccept)

/-- DONE_TIMER_END: the done timer ends (R162). -/
def execDoneTimerEnd (shelf : Fin 4) (s : State) : Host.Outcome State Fault Refusal :=
  .next (s.shelfTimerEnd shelf .awaitingDone)

end Sys2Proof.Machine
end

