-- ==== Sys2Proof/Machine/UnitCommands.lean ====
section
/-! DEFINITION. The meanings of the events of feeds, receive paths, the Score Unit, the Service Registry, the Sweep Engine
and the slots. -/
namespace Sys2Proof.Machine

/-- OVERCURRENT_EVENT: supply overcurrent on a feed (R25 to R27). -/
def execOvercurrentEvent (feed : Fin 6) (s : State) : Host.Outcome State Fault Refusal :=
  .next (s.overcurrent feed)

/-- SETTING_SETTLE_END: a feed's setting settle ends (R20). -/
def execSettingSettleEnd (feed : Fin 6) (s : State) : Host.Outcome State Fault Refusal :=
  .next (s.settingSettles feed)

/-- RETRY_DELAY_END: a feed's retry delay ends (R26). -/
def execRetryDelayEnd (feed : Fin 6) (s : State) : Host.Outcome State Fault Refusal :=
  .next (s.retryBegins feed)

/-- RETRY_SETTLE_END: a feed's retry settle ends (R26). -/
def execRetrySettleEnd (feed : Fin 6) (s : State) : Host.Outcome State Fault Refusal :=
  .next (s.retrySettles feed)

/-- FAULT_COUNT_CLEAR: a feed has been ON for 60 s since its retry (R28). -/
def execFaultCountClear (feed : Fin 6) (s : State) : Host.Outcome State Fault Refusal :=
  .next (s.faultsCleared feed)

/-- TUNE_START: a tune start held by tune spacing falls (R21, R36). -/
def execTuneStart (path : Fin 8) (s : State) : Host.Outcome State Fault Refusal :=
  .next (s.tuneStarts path)

/-- SETTLE_END: a path's settle timer ends (R37). -/
def execSettleEnd (path : Fin 8) (s : State) : Host.Outcome State Fault Refusal :=
  .next (s.settles path)

/-- ACQUISITION: a path's demodulator reports acquisition (R37). -/
def execAcquisition (path : Fin 8) (s : State) : Host.Outcome State Fault Refusal :=
  .next (s.acquires path)

/-- LOCK_TIMEOUT: a path's lock timeout ends (R38). -/
def execLockTimeout (path : Fin 8) (s : State) : Host.Outcome State Fault Refusal :=
  .next (s.lockTimesOut path)

/-- BLOCK_END: a 50 ms block ends with its sample (R54). -/
def execBlockEnd (path : Fin 8) (sample : BlockSample) (s : State) : Host.Outcome State Fault Refusal :=
  .next (s.blockEnds path sample)

/-- ANNOUNCEMENT_SECTION: an announcement section arrives (R63). -/
def execAnnouncementSection (path : Fin 8) (sec : AnnouncementSection) (s : State) : Host.Outcome State Fault Refusal :=
  .next (s.sectionArrives path sec)

/-- CONTENT_TIMEOUT: a content timeout ends (R66). -/
def execContentTimeout (path : Fin 8) (s : State) : Host.Outcome State Fault Refusal :=
  .next (s.contentTimesOut path)

/-- EARLIEST_DETACH: the earliest detach of a RELEASING path passes (R47). -/
def execEarliestDetach (path : Fin 8) (s : State) : Host.Outcome State Fault Refusal :=
  .next (s.detachPasses path)

/-- RECOVERY_END: a release recovery ends (R48). -/
def execRecoveryEnd (path : Fin 8) (s : State) : Host.Outcome State Fault Refusal :=
  .next (s.recovers path)

/-- SCORED_RESULT: the Score Unit takes a scored QUALITY result (R97). -/
def execScoredResult (path : Fin 8) (s : State) : Host.Outcome State Fault Refusal :=
  .next (s.scoreTakes path Result.scored State.applyScored)

/-- NO_LOCK_MISS: the Score Unit takes a NO_LOCK result (R98). -/
def execNoLockMiss (path : Fin 8) (s : State) : Host.Outcome State Fault Refusal :=
  .next (s.scoreTakes path Result.missed State.applyNoLock)

/-- LEVEL_RESULT: the Score Unit takes a locked LEVEL result (R99). -/
def execLevelResult (path : Fin 8) (s : State) : Host.Outcome State Fault Refusal :=
  .next (s.scoreTakes path Result.levelSeen State.applyLevel)

/-- CONTENT_RESULT: the Service Registry takes a CONTENT result (R116). -/
def execContentResult (path : Fin 8) (s : State) : Host.Outcome State Fault Refusal :=
  .next (s.registryTakes path)

/-- STALE_TIMER_END: a carrier's stale timer ends (R101). -/
def execStaleTimerEnd (carrier : Byte) (s : State) : Host.Outcome State Fault Refusal :=
  .next (s.staleEnds carrier.toNat)

/-- TICK_BOUNDARY: a tick ends and the next begins (R80, R81). -/
def execTickBoundary (s : State) : Host.Outcome State Fault Refusal :=
  .next (s.tickEnds)

/-- REST_END: a list's rest counter has reached 0 (R79). -/
def execRestEnd (list : Fin 8) (s : State) : Host.Outcome State Fault Refusal :=
  .next (s.restEnds list)

/-- HOLD_DOWN_END: a slot's hold-down end is reached (R140). -/
def execHoldDownEnd (slot : Fin 64) (s : State) : Host.Outcome State Fault Refusal :=
  .next (s.holdDownPasses slot)

/-- BAR_END: a slot's barred end is reached (R140). -/
def execBarEnd (slot : Fin 64) (s : State) : Host.Outcome State Fault Refusal :=
  .next (s.barPasses slot)

end Sys2Proof.Machine
end

