-- ==== Sys2Proof/Machine/Dispatch.lean ====
section
/-! DEFINITION. The effect of a command on everything but the queue of waiting commands: one arm for each
command. -/
namespace Sys2Proof.Machine

def exec (i : Instr) (s : State) : Host.Outcome State Fault Refusal :=
  match i with
  | .planPut tag body => Sys2Proof.Machine.execPlanPut tag body s
  | .planDisable tag body => Sys2Proof.Machine.execPlanDisable tag body s
  | .planErase tag body => Sys2Proof.Machine.execPlanErase tag body s
  | .feedSet tag body => Sys2Proof.Machine.execFeedSet tag body s
  | .feedEnable tag body => Sys2Proof.Machine.execFeedEnable tag body s
  | .paramSet tag body => Sys2Proof.Machine.execParamSet tag body s
  | .paramGet tag body => Sys2Proof.Machine.execParamGet tag body s
  | .listWrite tag body => Sys2Proof.Machine.execListWrite tag body s
  | .listDefine tag body => Sys2Proof.Machine.execListDefine tag body s
  | .listSeek tag body => Sys2Proof.Machine.execListSeek tag body s
  | .pathMode tag body => Sys2Proof.Machine.execPathMode tag body s
  | .probeTune tag body => Sys2Proof.Machine.execProbeTune tag body s
  | .probeMeasure tag body => Sys2Proof.Machine.execProbeMeasure tag body s
  | .probeRelease tag body => Sys2Proof.Machine.execProbeRelease tag body s
  | .recheck tag body => Sys2Proof.Machine.execRecheck tag body s
  | .surveyStart tag body => Sys2Proof.Machine.execSurveyStart tag body s
  | .surveyPause tag body => Sys2Proof.Machine.execSurveyPause tag body s
  | .surveyResume tag body => Sys2Proof.Machine.execSurveyResume tag body s
  | .surveyStop tag body => Sys2Proof.Machine.execSurveyStop tag body s
  | .restart tag body => Sys2Proof.Machine.execRestart tag body s
  | .restartSurvey => Sys2Proof.Machine.execRestartSurvey s
  | .restartAll => Sys2Proof.Machine.execRestartAll s
  | .aliasBind tag body => Sys2Proof.Machine.execAliasBind tag body s
  | .aliasUnbind tag body => Sys2Proof.Machine.execAliasUnbind tag body s
  | .serviceDrop tag body => Sys2Proof.Machine.execServiceDrop tag body s
  | .slotSet tag body => Sys2Proof.Machine.execSlotSet tag body s
  | .slotClear tag body => Sys2Proof.Machine.execSlotClear tag body s
  | .slotPin tag body => Sys2Proof.Machine.execSlotPin tag body s
  | .slotUnpin tag body => Sys2Proof.Machine.execSlotUnpin tag body s
  | .slotResume tag body => Sys2Proof.Machine.execSlotResume tag body s
  | .readCarriers tag body => Sys2Proof.Machine.execReadCarriers tag body s
  | .readFeeds tag body => Sys2Proof.Machine.execReadFeeds tag body s
  | .readPaths tag body => Sys2Proof.Machine.execReadPaths tag body s
  | .readLists tag body => Sys2Proof.Machine.execReadLists tag body s
  | .readServices tag body => Sys2Proof.Machine.execReadServices tag body s
  | .readCandidates tag body => Sys2Proof.Machine.execReadCandidates tag body s
  | .readSlots tag body => Sys2Proof.Machine.execReadSlots tag body s
  | .readStatus tag body => Sys2Proof.Machine.execReadStatus tag body s
  | .noticeFetch tag body => Sys2Proof.Machine.execNoticeFetch tag body s
  | .noticeMask tag body => Sys2Proof.Machine.execNoticeMask tag body s
  | .unknownKind kind tag body => Sys2Proof.Machine.execUnknownKind kind tag body s
  | .frameError chars => Sys2Proof.Machine.execFrameError chars s
  | .frameGapTimeout => Sys2Proof.Machine.execFrameGapTimeout s
  | .replySent => Sys2Proof.Machine.execReplySent s
  | .reset => Sys2Proof.Machine.execReset s
  | .powerOn => Sys2Proof.Machine.execPowerOn s
  | .accept shelf tag => Sys2Proof.Machine.execAccept shelf tag s
  | .done shelf tag output => Sys2Proof.Machine.execDone shelf tag output s
  | .reject shelf tag output reason => Sys2Proof.Machine.execReject shelf tag output reason s
  | .loss shelf output => Sys2Proof.Machine.execLoss shelf output s
  | .ready shelf => Sys2Proof.Machine.execReady shelf s
  | .shelfFrameDiscard shelf chars => Sys2Proof.Machine.execShelfFrameDiscard shelf chars s
  | .orderSent shelf => Sys2Proof.Machine.execOrderSent shelf s
  | .acceptTimerEnd shelf => Sys2Proof.Machine.execAcceptTimerEnd shelf s
  | .doneTimerEnd shelf => Sys2Proof.Machine.execDoneTimerEnd shelf s
  | .overcurrentEvent feed => Sys2Proof.Machine.execOvercurrentEvent feed s
  | .settingSettleEnd feed => Sys2Proof.Machine.execSettingSettleEnd feed s
  | .retryDelayEnd feed => Sys2Proof.Machine.execRetryDelayEnd feed s
  | .retrySettleEnd feed => Sys2Proof.Machine.execRetrySettleEnd feed s
  | .faultCountClear feed => Sys2Proof.Machine.execFaultCountClear feed s
  | .tuneStart path => Sys2Proof.Machine.execTuneStart path s
  | .settleEnd path => Sys2Proof.Machine.execSettleEnd path s
  | .acquisition path => Sys2Proof.Machine.execAcquisition path s
  | .lockTimeout path => Sys2Proof.Machine.execLockTimeout path s
  | .blockEnd path sample => Sys2Proof.Machine.execBlockEnd path sample s
  | .announcementSection path sec => Sys2Proof.Machine.execAnnouncementSection path sec s
  | .contentTimeout path => Sys2Proof.Machine.execContentTimeout path s
  | .earliestDetach path => Sys2Proof.Machine.execEarliestDetach path s
  | .recoveryEnd path => Sys2Proof.Machine.execRecoveryEnd path s
  | .scoredResult path => Sys2Proof.Machine.execScoredResult path s
  | .noLockMiss path => Sys2Proof.Machine.execNoLockMiss path s
  | .levelResult path => Sys2Proof.Machine.execLevelResult path s
  | .contentResult path => Sys2Proof.Machine.execContentResult path s
  | .staleTimerEnd carrier => Sys2Proof.Machine.execStaleTimerEnd carrier s
  | .tickBoundary => Sys2Proof.Machine.execTickBoundary s
  | .restEnd list => Sys2Proof.Machine.execRestEnd list s
  | .holdDownEnd slot => Sys2Proof.Machine.execHoldDownEnd slot s
  | .barEnd slot => Sys2Proof.Machine.execBarEnd slot s

end Sys2Proof.Machine
end

