-- ==== Sys2Proof/Machine/Clock.lean ====
section
/-! DEFINITION. What the module does when no command waits: the event of its own that is due, or a
millisecond of its clock (DESIGN CHOICE, assumption log 6). Events of the radio side, of the lines and of the supplies come
from outside only. -/
namespace Sys2Proof.Machine

/-- `c` when `b` holds. -/
def dueWhen (b : Bool) (c : Instr) : Option Instr := if b then some c else none

/-- The first command that is due among those that a list of places gives. -/
def firstDue {α : Type} (f : α → Option Instr) : List α → Option Instr
  | [] => none
  | x :: r =>
    match f x with
    | some c => some c
    | none => firstDue f r

/-- The first of two. -/
def orElse (x y : Option Instr) : Option Instr :=
  match x with
  | some c => some c
  | none => y

/-- A restart whose reply has been sent. -/
def State.dueRestart (s : State) : Option Instr :=
  orElse (dueWhen (s.restartDue .survey) .restartSurvey) (dueWhen (s.restartDue .all) .restartAll)

/-- The command by which the oldest result of a path is taken. -/
def Result.takenBy (p : Fin 8) (r : Result) : Option Instr :=
  if r.scored then some (.scoredResult p)
  else if r.missed then some (.noLockMiss p)
  else if r.levelSeen then some (.levelResult p)
  else dueWhen (decide (r.cls = some .content)) (.contentResult p)

def State.dueResult (s : State) (p : Fin 8) : Option Instr :=
  ((s.path p).outbox.head?).bind fun h => h.result.takenBy p

def State.dueRest (s : State) (n : Fin 8) : Option Instr :=
  dueWhen (decide ((s.sweep n).state = .resting ∧ (s.sweep n).rest = 0)) (.restEnd n)

def State.dueFeed (s : State) (f : Fin 6) : Option Instr :=
  let x := s.feed f
  match x.state with
  | .setting => orElse (dueWhen (isDue s.clock x.settleEnd) (.settingSettleEnd f)) (dueWhen (isDue s.clock x.clearEnd) (.faultCountClear f))
  | .fault => dueWhen (isDue s.clock x.retryEnd) (.retryDelayEnd f)
  | .retry => dueWhen (isDue s.clock x.settleEnd) (.retrySettleEnd f)
  | .on | .off => dueWhen (isDue s.clock x.clearEnd) (.faultCountClear f)

def State.duePath (s : State) (p : Fin 8) : Option Instr :=
  let x := s.path p
  match x.state with
  | .waitFeed => dueWhen (x.tap.isSome && isDue s.clock x.tuneDue) (.tuneStart p)
  | .settling => dueWhen (isDue s.clock x.settleEnd) (.settleEnd p)
  | .locking => dueWhen (isDue s.clock x.lockEnd) (.lockTimeout p)
  | .measuring =>
    dueWhen ((x.window.bind (·.gathering)).isSome && x.tuned.isSome && isDue s.clock x.contentEnd) (.contentTimeout p)
  | .releasing => dueWhen (hasPassed s.clock x.earliestDetach && !x.resultOutstanding) (.earliestDetach p)
  | .recovering => dueWhen (isDue s.clock x.recoveryEnd) (.recoveryEnd p)
  | .parked | .locked => none

def State.dueShelf (s : State) (h : Fin 4) : Option Instr :=
  match (s.shelf h).inFlight with
  | none => none
  | some f =>
    match f.stage with
    | .awaitingAccept => dueWhen (isDue s.clock f.timerEnd) (.acceptTimerEnd h)
    | .awaitingDone => dueWhen (isDue s.clock f.timerEnd) (.doneTimerEnd h)

/-- The end of a slot's hold-down, then of its bar: for one of 0 too it is an event of its own (R140; DESIGN CHOICE,
assumption log 37). -/
def State.dueSlot (s : State) (i : Fin 64) : Option Instr :=
  let x := s.slot i
  orElse (dueWhen (isDue s.clock x.holdEnd) (.holdDownEnd i))
    (dueWhen (isDue s.clock (x.bar.map (·.until'))) (.barEnd i))

def State.dueCarrier (s : State) (e : Nat × Carrier) : Option Instr :=
  dueWhen (decide (e.2.reception.state = .fresh) && isDue s.clock e.2.reception.staleEnd)
    (.staleTimerEnd (BitVec.ofNat 8 e.1))

/-- The module's own event that is due, if there is one: a restart, a result to be taken, a rest that has
run out, the end of a timer, the tick. Their order at one moment is the model's (DESIGN CHOICE, assumption log 6). -/
def State.dueEvent (s : State) : Option Instr :=
  orElse s.dueRestart
  (orElse (firstDue s.dueResult allPaths)
  (orElse (firstDue s.dueRest allPaths)
  (orElse (firstDue s.dueFeed allFeeds)
  (orElse (firstDue s.duePath allPaths)
  (orElse (firstDue s.dueShelf allShelves)
  (orElse (firstDue s.dueSlot allSlots)
  (orElse (firstDue s.dueCarrier s.carriers)
  (orElse (dueWhen (reached s.clock s.tickEnd) .tickBoundary)
    (dueWhen (s.frameInput.gapped s.clock) .frameGapTimeout)))))))))

/-- A millisecond passes. -/
def State.tickClock (s : State) : State := { s with clock := s.clock + 1 }

/-- No command waits. -/
def State.idle (s : State) : Host.Outcome State Fault Refusal :=
  match s.dueEvent with
  | some c => exec c s
  | none => .next s.tickClock

end Sys2Proof.Machine
end

