-- ==== Sys2Proof/WellFormed.lean ====
section
/-! DEFINITION. When a command is one that the outside can send: a request's body fits its frame (R179), an
unknown kind is one that Table 13-2 does not list (R194), the fields of a shelf reply lie in their ranges
(R154), and what the radio side hands over is what a block or a section can hold (R54, R55, section 5.5). A
command that is not well formed still has a meaning; the model does not rest on these checks. -/
namespace Sys2Proof

/-- The request kinds of Table 13-2. -/
def requestKinds : List Nat :=
  [0x01, 0x02, 0x03, 0x08, 0x09, 0x10, 0x11, 0x18, 0x19, 0x1A, 0x20, 0x21, 0x22, 0x23, 0x28,
   0x30, 0x31, 0x32, 0x33, 0x34, 0x38, 0x39, 0x3A, 0x40, 0x41, 0x42, 0x43, 0x44,
   0x50, 0x51, 0x52, 0x53, 0x54, 0x55, 0x56, 0x57, 0x60, 0x61]

/-- A body that a frame can carry. -/
def bodyFits (body : List Byte) : Bool := decide (body.length ≤ Config.maxBody)

/-- A shelf output. -/
def outputFits (output : Byte) : Bool := decide (output.toNat < 16)

/-- A REJECT reason. -/
def reasonFits (reason : Byte) : Bool := decide (1 ≤ reason.toNat ∧ reason.toNat ≤ 15)

/-- A block without lock yields neither MER, errored packets nor versions (R55). -/
def BlockSample.wellFormed (b : BlockSample) : Bool :=
  b.locked || (decide (b.mer = 0 ∧ b.errored = 0) && b.versions.isEmpty)

def Instr.wellFormed : Instr → Bool
  | .planPut _ body => bodyFits body
  | .planDisable _ body => bodyFits body
  | .planErase _ body => bodyFits body
  | .feedSet _ body => bodyFits body
  | .feedEnable _ body => bodyFits body
  | .paramSet _ body => bodyFits body
  | .paramGet _ body => bodyFits body
  | .listWrite _ body => bodyFits body
  | .listDefine _ body => bodyFits body
  | .listSeek _ body => bodyFits body
  | .pathMode _ body => bodyFits body
  | .probeTune _ body => bodyFits body
  | .probeMeasure _ body => bodyFits body
  | .probeRelease _ body => bodyFits body
  | .recheck _ body => bodyFits body
  | .surveyStart _ body => bodyFits body
  | .surveyPause _ body => bodyFits body
  | .surveyResume _ body => bodyFits body
  | .surveyStop _ body => bodyFits body
  | .restart _ body => bodyFits body
  | .restartSurvey => true
  | .restartAll => true
  | .aliasBind _ body => bodyFits body
  | .aliasUnbind _ body => bodyFits body
  | .serviceDrop _ body => bodyFits body
  | .slotSet _ body => bodyFits body
  | .slotClear _ body => bodyFits body
  | .slotPin _ body => bodyFits body
  | .slotUnpin _ body => bodyFits body
  | .slotResume _ body => bodyFits body
  | .readCarriers _ body => bodyFits body
  | .readFeeds _ body => bodyFits body
  | .readPaths _ body => bodyFits body
  | .readLists _ body => bodyFits body
  | .readServices _ body => bodyFits body
  | .readCandidates _ body => bodyFits body
  | .readSlots _ body => bodyFits body
  | .readStatus _ body => bodyFits body
  | .noticeFetch _ body => bodyFits body
  | .noticeMask _ body => bodyFits body
  | .unknownKind kind _ body => bodyFits body && !requestKinds.contains kind.toNat
  | .frameError _ => true
  | .frameGapTimeout => true
  | .replySent => true
  | .reset => true
  | .powerOn => true
  | .accept _ _ => true
  | .done _ _ output => outputFits output
  | .reject _ _ output reason => outputFits output && reasonFits reason
  | .loss _ output => outputFits output
  | .ready _ => true
  | .shelfFrameDiscard _ _ => true
  | .orderSent _ => true
  | .acceptTimerEnd _ => true
  | .doneTimerEnd _ => true
  | .overcurrentEvent _ => true
  | .settingSettleEnd _ => true
  | .retryDelayEnd _ => true
  | .retrySettleEnd _ => true
  | .faultCountClear _ => true
  | .tuneStart _ => true
  | .settleEnd _ => true
  | .acquisition _ => true
  | .lockTimeout _ => true
  | .blockEnd _ sample => sample.wellFormed
  | .announcementSection _ _ => true
  | .contentTimeout _ => true
  | .earliestDetach _ => true
  | .recoveryEnd _ => true
  | .scoredResult _ => true
  | .noLockMiss _ => true
  | .levelResult _ => true
  | .contentResult _ => true
  | .staleTimerEnd _ => true
  | .tickBoundary => true
  | .restEnd _ => true
  | .holdDownEnd _ => true
  | .barEnd _ => true

end Sys2Proof
end

