-- ==== Sys2Proof/Safety.lean ====
section
/-! DEFINITION. What a safe state is, in the terms the statements use: the laws the guide says that a state
of the module always keeps, and the conditions under which a command has its effect. -/
namespace Sys2Proof.Machine

/-! ## Laws of the state -/

/-- No two notices of a queue share kind and object (R188). -/
def noticesApart : List Notice → Bool
  | [] => true
  | n :: r => !r.any (Notice.about n.kind n.object) && noticesApart r

/-- The law of the notice queue (R188): at most 32 notices, at most 28 of them routine, no two of one kind and
object, the urgent ones in front. -/
def State.noticesOk (s : State) : Bool :=
  decide (s.notices.length ≤ 32) && decide (s.routineCount ≤ 28) && noticesApart s.notices
    && (s.notices.dropWhile Notice.urgent).all fun n => !n.urgent

/-- No feed has more than 4 paths attached (R18). -/
def State.tapsOk (s : State) : Bool := allFeeds.all fun f => decide (s.users f ≤ 4)

/-- A slot's state agrees with its sources (R130, Table 9-2): a VACANT slot is bound to nothing, every other
slot is bound; ON_AIR and HELD have an active source, SWITCHING has a target, and no other state has one. -/
def Slot.lawful (x : Slot) : Bool :=
  match x.state with
  | .vacant => decide (x.binding = none ∧ x.active = none ∧ x.target = none)
  | .seeking => decide (x.binding ≠ none ∧ x.active = none ∧ x.target = none)
  | .onAir | .held => decide (x.binding ≠ none ∧ x.active ≠ none ∧ x.target = none)
  | .switching => decide (x.binding ≠ none ∧ x.target ≠ none)
  | .fault => decide (x.binding ≠ none ∧ x.target = none)

def State.slotsOk (s : State) : Bool := allSlots.all fun i => (s.slot i).lawful

/-- The bound pairs stand in rising order of network id and then service id, and none stands twice (R108, R195). -/
def pairsRise : List PairBinding → Bool
  | [] => true
  | b :: r =>
    r.all (fun c => decide (b.pair.network < c.pair.network
      ∨ b.pair.network = c.pair.network ∧ b.pair.serviceId < c.pair.serviceId)) && pairsRise r

/-- The sparse tables stand in their canonical form (R1, R70, R107), and so do the bound pairs (R108). -/
def State.tablesOk (s : State) : Bool :=
  Store.wf s.carriers && Store.wf s.planMemory && Store.wf s.services && pairsRise s.bindings

/-- No recheck of a list's entries stands twice (R83). -/
def rechecksApart : List Recheck → Bool
  | [] => true
  | e :: r => !r.any (Recheck.of e.carrier e.cls) && rechecksApart r

/-- The law of the Recheck Queue (R83): at most 24 entries, the URGENT ones in front, no carrier and class
twice in the queue, nor in the queue and on a path. -/
def State.rechecksOk (s : State) : Bool :=
  decide (s.recheckQueue.length ≤ 24) && rechecksApart s.recheckQueue
    && ((s.recheckQueue.dropWhile Recheck.isUrgent).all fun e => !e.isUrgent)
    && s.recheckQueue.all fun e => !s.recheckOnPath e.carrier e.cls

/-! ## What the blocks leave alone -/

/-- The list stands still: IDLE, no entry begun, no loan on its path. -/
def SweepList.still (l : SweepList) : Prop := l.state = .idle ∧ l.stage = .notBegun ∧ l.loan = none

/-- What the Sweep Engine, the receive paths and the Input Matrix may change on their own account: `t` differs
from `s` in the paths, the lists, the Recheck Queue, the end of STOPPING, the notices and, of the feeds, the state,
the setting, the waiting list and the spacing. Everything else is as in `s`. `asked` says whether a recheck may have
been asked for as well. -/
structure SweepFrame (asked : Bool) (s t : State) : Prop where
  clock : t.clock = s.clock
  pending : t.pending = s.pending
  frameInput : t.frameInput = s.frameInput
  waiting : t.waiting = s.waiting
  replies : t.replies = s.replies
  restarting : t.restarting = s.restarting
  masks : t.masks = s.masks
  params : t.params = s.params
  carriers : t.carriers = s.carriers
  planMemory : t.planMemory = s.planMemory
  tickEnd : t.tickEnd = s.tickEnd
  services : t.services = s.services
  bindings : t.bindings = s.bindings
  slots : t.slots = s.slots
  shelves : t.shelves = s.shelves
  /-- A feed keeps its kind, its supply flag, its preference and its fault count. -/
  feeds : ∀ f, (t.feed f).kind = (s.feed f).kind ∧ (t.feed f).supply = (s.feed f).supply
    ∧ (t.feed f).preference = (s.feed f).preference ∧ (t.feed f).faultCount = (s.feed f).faultCount
  /-- A feed that is OFF and has nobody waiting is left alone. -/
  offFeed : ∀ f, (s.feed f).state = .off → (s.feed f).waiting = [] → t.feed f = s.feed f
  /-- The survey changes from STOPPING alone, and to STOPPED alone. -/
  survey : t.survey = s.survey ∨ s.survey = .stopping ∧ t.survey = .stopped
  /-- A list that stands still stays so. -/
  still : ∀ n, (s.sweep n).still → t.sweep n = s.sweep n
  /-- Nothing is new in the Recheck Queue but what was asked for, for an enabled carrier (R12, R84). -/
  queue : ∀ e ∈ t.recheckQueue, e ∈ s.recheckQueue ∨ asked = true ∧ s.enabled e.carrier = true

/-- What the Lineup Controller and the Route Link may change when a service is reported, with what the sweep does
on their account: `t` differs from `s` besides in the slots, but for what a slot is bound to, in the shelves and
in the candidates and services that are freed. Everything else is as in `s`. -/
structure LineupFrame (s t : State) : Prop where
  clock : t.clock = s.clock
  pending : t.pending = s.pending
  frameInput : t.frameInput = s.frameInput
  waiting : t.waiting = s.waiting
  replies : t.replies = s.replies
  restarting : t.restarting = s.restarting
  masks : t.masks = s.masks
  params : t.params = s.params
  carriers : t.carriers = s.carriers
  planMemory : t.planMemory = s.planMemory
  tickEnd : t.tickEnd = s.tickEnd
  bindings : t.bindings = s.bindings
  feeds : ∀ f, (t.feed f).kind = (s.feed f).kind ∧ (t.feed f).supply = (s.feed f).supply
    ∧ (t.feed f).preference = (s.feed f).preference ∧ (t.feed f).faultCount = (s.feed f).faultCount
  offFeed : ∀ f, (s.feed f).state = .off → (s.feed f).waiting = [] → t.feed f = s.feed f
  survey : t.survey = s.survey ∨ s.survey = .stopping ∧ t.survey = .stopped
  still : ∀ n, (s.sweep n).still → t.sweep n = s.sweep n
  queue : ∀ e ∈ t.recheckQueue, e ∈ s.recheckQueue ∨ s.enabled e.carrier = true
  /-- No service is made. -/
  services : ∀ k, s.service k = none → t.service k = none
  /-- A slot stays bound as it was. -/
  slots : ∀ i, (t.slot i).binding = (s.slot i).binding
  /-- A VACANT slot's record stays as it was where it names no candidate. -/
  vacant : ∀ i, (s.slot i).binding = none → (s.slot i).state = .vacant → (s.slot i).challenger = none →
    (s.slot i).bar = none → (s.slot i).lastTarget = none → t.slot i = s.slot i
  /-- While the survey is STOPPED and every list stands still, no path and no feed is touched. -/
  parked : s.survey = .stopped → (∀ n, (s.sweep n).still) → t.paths = s.paths ∧ t.feeds = s.feeds
  /-- A shelf keeps its state and its timeout count. -/
  shelves : ∀ h, (t.shelf h).state = (s.shelf h).state ∧ (t.shelf h).timeouts = (s.shelf h).timeouts

/-! ## Conditions under which a command has its effect -/

/-- A request whose frame completes now is taken at once (R182): no restart is awaited, and fewer than four
requests are outstanding. -/
def State.takes (s : State) : Bool :=
  !s.holdsRequests && decide (s.outstanding < 4)

/-- The frame in reception has waited more than 20 ms for its next byte, and no FRAME_ERROR that waits unsent, in the
sequence or behind the requests that wait for a restart, answers for its discard (R179, R181). -/
def State.owesLateFrame (s : State) : Bool :=
  match s.frameInput with
  | .hunting => false
  | .receiving _ last =>
    decide (20 < (s.clock - last).toNat ∧ (∀ x ∈ s.replies, x.code ≠ .frameError) ∧ .frameError ∉ s.waiting)

/-- The module as the completion of a request frame finds it: the receiver hunts for the next frame (R179). A frame in
reception whose next byte is late has been discarded, and FRAME_ERROR has taken its place, behind the replies owed and
behind the requests that wait, unless one waits already (R181). Any other frame in reception is dropped (DESIGN CHOICE,
assumption log 8). -/
def State.hunts (s : State) : State :=
  { s with
    frameInput := .hunting
    replies :=
      if s.owesLateFrame = true ∧ s.waiting = [] then s.replies ++ [⟨0xFF, 0, .frameError, []⟩] else s.replies
    waiting := if s.owesLateFrame = true ∧ s.waiting ≠ [] then s.waiting ++ [.frameError] else s.waiting }

/-- A frame is discarded on the Control Link: FRAME_ERROR takes its place behind the replies owed and behind the requests
that wait, unless one waits already (R181; behind those requests DEDUCED, assumption log 11). -/
def State.discards (s : State) : State :=
  if (∃ x ∈ s.replies, x.code = .frameError) ∨ .frameError ∈ s.waiting then s
  else if s.waiting = [] then { s with replies := s.replies ++ [⟨0xFF, 0, .frameError, []⟩] }
  else { s with waiting := s.waiting ++ [.frameError] }

/-- The request frame whose completion a command is, for the commands of Table 13-2. -/
def requestOf : Instr → Option Request
  | .planPut tag body => some ⟨0x01, tag, body⟩
  | .planDisable tag body => some ⟨0x02, tag, body⟩
  | .planErase tag body => some ⟨0x03, tag, body⟩
  | .feedSet tag body => some ⟨0x08, tag, body⟩
  | .feedEnable tag body => some ⟨0x09, tag, body⟩
  | .paramSet tag body => some ⟨0x10, tag, body⟩
  | .paramGet tag body => some ⟨0x11, tag, body⟩
  | .listWrite tag body => some ⟨0x18, tag, body⟩
  | .listDefine tag body => some ⟨0x19, tag, body⟩
  | .listSeek tag body => some ⟨0x1A, tag, body⟩
  | .pathMode tag body => some ⟨0x20, tag, body⟩
  | .probeTune tag body => some ⟨0x21, tag, body⟩
  | .probeMeasure tag body => some ⟨0x22, tag, body⟩
  | .probeRelease tag body => some ⟨0x23, tag, body⟩
  | .recheck tag body => some ⟨0x28, tag, body⟩
  | .surveyStart tag body => some ⟨0x30, tag, body⟩
  | .surveyPause tag body => some ⟨0x31, tag, body⟩
  | .surveyResume tag body => some ⟨0x32, tag, body⟩
  | .surveyStop tag body => some ⟨0x33, tag, body⟩
  | .restart tag body => some ⟨0x34, tag, body⟩
  | .restartSurvey => none
  | .restartAll => none
  | .aliasBind tag body => some ⟨0x38, tag, body⟩
  | .aliasUnbind tag body => some ⟨0x39, tag, body⟩
  | .serviceDrop tag body => some ⟨0x3A, tag, body⟩
  | .slotSet tag body => some ⟨0x40, tag, body⟩
  | .slotClear tag body => some ⟨0x41, tag, body⟩
  | .slotPin tag body => some ⟨0x42, tag, body⟩
  | .slotUnpin tag body => some ⟨0x43, tag, body⟩
  | .slotResume tag body => some ⟨0x44, tag, body⟩
  | .readCarriers tag body => some ⟨0x50, tag, body⟩
  | .readFeeds tag body => some ⟨0x51, tag, body⟩
  | .readPaths tag body => some ⟨0x52, tag, body⟩
  | .readLists tag body => some ⟨0x53, tag, body⟩
  | .readServices tag body => some ⟨0x54, tag, body⟩
  | .readCandidates tag body => some ⟨0x55, tag, body⟩
  | .readSlots tag body => some ⟨0x56, tag, body⟩
  | .readStatus tag body => some ⟨0x57, tag, body⟩
  | .noticeFetch tag body => some ⟨0x60, tag, body⟩
  | .noticeMask tag body => some ⟨0x61, tag, body⟩
  | .unknownKind kind tag body => some ⟨kind, tag, body⟩
  | .frameError _ => none
  | .frameGapTimeout => none
  | .replySent => none
  | .reset => none
  | .powerOn => none
  | .accept _ _ => none
  | .done _ _ _ => none
  | .reject _ _ _ _ => none
  | .loss _ _ => none
  | .ready _ => none
  | .shelfFrameDiscard _ _ => none
  | .orderSent _ => none
  | .acceptTimerEnd _ => none
  | .doneTimerEnd _ => none
  | .overcurrentEvent _ => none
  | .settingSettleEnd _ => none
  | .retryDelayEnd _ => none
  | .retrySettleEnd _ => none
  | .faultCountClear _ => none
  | .tuneStart _ => none
  | .settleEnd _ => none
  | .acquisition _ => none
  | .lockTimeout _ => none
  | .blockEnd _ _ => none
  | .announcementSection _ _ => none
  | .contentTimeout _ => none
  | .earliestDetach _ => none
  | .recoveryEnd _ => none
  | .scoredResult _ => none
  | .noLockMiss _ => none
  | .levelResult _ => none
  | .contentResult _ => none
  | .staleTimerEnd _ => none
  | .tickBoundary => none
  | .restEnd _ => none
  | .holdDownEnd _ => none
  | .barEnd _ => none

/-- The Sweep Engine has nothing to do. -/
def State.quiet (s : State) : Prop := s.engineAct = none

/-- The plan fields of a carrier lie in the ranges of Table 2-2 for the kind of its feed (R2). -/
def Plan.fits (p : Plan) (k : FeedKind) : Bool :=
  match k with
  | .terrestrial =>
    decide (170000 ≤ p.frequency ∧ p.frequency ≤ 862000 ∧ 6 ≤ p.rate ∧ p.rate ≤ 8 ∧ p.setting = none
      ∧ p.modulation.suits = .terrestrial)
  | .cable =>
    decide (110000 ≤ p.frequency ∧ p.frequency ≤ 862000 ∧ 1000 ≤ p.rate ∧ p.rate ≤ 7200 ∧ p.setting = none
      ∧ p.modulation.suits = .cable)
  | .satellite =>
    decide (950000 ≤ p.frequency ∧ p.frequency ≤ 2150000 ∧ 1000 ≤ p.rate ∧ p.rate ≤ 45000 ∧ p.setting ≠ none
      ∧ p.modulation.suits = .satellite)
  | .noKind => false

/-- The body of a PLAN_PUT that writes a plan (Table 13-4). -/
def Plan.body (i : Byte) (p : Plan) : List Byte :=
  i :: byteOf p.feed.1 :: le32 p.frequency ++ settingBytes p.setting ++ le16 p.rate
    ++ [byteOf p.modulation.code, flagByte p.enabled]

/-- The fields of a Plan Memory entry lie in the ranges of Table 6-1. -/
def SweepEntry.fits (e : SweepEntry) : Bool :=
  decide (e.carrier < 256 ∧ (e.window = 4 ∨ e.window = 8) ∧ e.leadIn ≤ 3 ∧ e.rest ≤ 4095)

/-- An entry record of a LIST_WRITE body, blank or full (Table 13-4). -/
def entryBytes (e : Option SweepEntry) : List Byte :=
  match e with
  | none => [0]
  | some e =>
    [1, byteOf e.carrier, byteOf e.cls.code, byteOf e.window, byteOf e.leadIn, flagByte e.release] ++ le16 e.rest
      ++ [flagByte e.note]

/-- The body of a LIST_WRITE of a run of entries (Table 13-4). -/
def runBody (first : Nat) (l : List (Option SweepEntry)) : List Byte :=
  le16 first ++ le16 l.length ++ l.flatMap entryBytes

/-- A run may be written: it lies in Plan Memory, its entries fit and name used carriers (R71). -/
def State.runOk (s : State) (first : Nat) (l : List (Option SweepEntry)) : Bool :=
  decide (l ≠ [] ∧ first + l.length ≤ 512 ∧ (runBody first l).length ≤ 1024)
    && l.all fun e =>
      match e with
      | none => true
      | some e => e.fits && (s.carrier e.carrier).isSome

/-- The characters of a frame, all with good stop bits. -/
def goodChars (l : List Byte) : List LineChar := l.map fun b => ⟨b, true⟩

/-- The content of a read reply taken at a clock reading, over the records from the first one asked for (R184): how
many records it returns, the reading, and whole records in order, which stop at the count, at the end, or before the
first record that would take the body above 1024 bytes. -/
def readReturns (count : Nat) (now : Stamp) (records : List (List Byte)) (content : List Byte) : Prop :=
  ∃ l rest, records = l ++ rest ∧ content = byteOf l.length :: stampBytes now ++ l.flatten
    ∧ l.length ≤ count ∧ l.flatten.length ≤ 1018
    ∧ (l.length = count ∨ ∀ r, rest.head? = some r → 1018 < l.flatten.length + r.length)

/-- A shelf that a valid reply other than READY has reached: it is alive, and its receiver hunts (R154, R163). A frame that
was in reception when the command came is dropped (DESIGN CHOICE, assumption log 8). -/
def Shelf.heard (x : Shelf) : Shelf :=
  { x with input := .hunting, timeouts := 0, state := if x.state = .unknown then .online else x.state }

/-- A shelf without an order in flight, once it has sent the head of its queue where it may (R158). -/
def Shelf.sendsNext (x : Shelf) : Shelf :=
  match x.queue with
  | [] => { x with inFlight := none }
  | o :: r =>
    if x.state = .offline then { x with inFlight := none }
    else { x with queue := r, inFlight := some ⟨o, .awaitingAccept, none⟩ }

/-- A path record as it enters PARKED (R48, Table 4-2). -/
def Path.atRest (x : Path) : Path :=
  { x with
    state := .parked, tuned := none, tuneRequester := none, posted := none, window := none, held := none
    heldTune := none, tap := none, tuneDue := none, settleEnd := none, lockEnd := none, blockEnd := none
    contentEnd := none, recoveryEnd := none, earliestDetach := none }

/-- A list record as it becomes SUSPENDED, where it is RUNNING or RESTING: it keeps its state as its resume state, and an
entry begun and not issued is unbegun (R74, R75). -/
def SweepList.halted (l : SweepList) : SweepList :=
  let unbegun : SweepList :=
    if l.stage = .begun then { l with stage := .notBegun, current := none, direct := false }
    else { l with direct := false }
  if l.state = .running then { unbegun with state := .suspended, resume := some .running }
  else if l.state = .resting then { unbegun with state := .suspended, resume := some .resting }
  else l

/-- A list record as it returns from SUSPENDED to its resume state: a rest counts again from now (R74, R75, R81). That a
tick boundary at this very clock reading is not counted is a DESIGN CHOICE (assumption log 46). -/
def SweepList.returned (now : Stamp) (l : SweepList) : SweepList :=
  if l.state = .suspended ∧ l.resume = some .running then { l with state := .running, resume := none }
  else if l.state = .suspended ∧ l.resume = some .resting then
    { l with state := .resting, resume := none, restBegan := some now }
  else l

/-- The Sweep Engine is told that a path leaves its list (R32, R75): the list is suspended, and a loan whose TUNE has not
been issued ends (DEDUCED, assumption log 15). -/
def State.listLeft (n : Fin 8) (s : State) : State :=
  s.setSweep n
    { (s.sweep n).halted with loan := (s.sweep n).loan.bind fun k => if k.issued = true then some k else none }

/-- The Sweep Engine is told that a path is in LIST mode (R33, R75): while the survey is RUNNING its list returns. -/
def State.listJoined (n : Fin 8) (s : State) : State :=
  if s.survey = .running then s.setSweep n ((s.sweep n).returned s.clock) else s

/-- A path enters PARKED, in its pending mode if it has one, of which the Sweep Engine is told (R33, R75). -/
def State.rests (p : Fin 8) (s : State) : State :=
  match (s.path p).pendingMode with
  | none => s.setPath p (s.path p).atRest
  | some m =>
    let u := s.setPath p { (s.path p).atRest with mode := m, pendingMode := none }
    if m = .list then u.listJoined p else u.listLeft p

/-- A path record as the path detaches: RECOVERING, its recovery timer running (R47, R48). -/
def State.recovering (s : State) (x : Path) : Path :=
  { x with
    state := .recovering, tuned := none, tuneRequester := none, posted := none, window := none, held := none
    tap := none, tuneDue := none, settleEnd := none, lockEnd := none, blockEnd := none, contentEnd := none
    earliestDetach := none, releaseTime := some s.clock
    recoveryEnd := some (s.clock + BitVec.ofNat 32 s.params.releaseRecovery) }

/-- A path record as it leaves its carrier and has not detached: RELEASING (R43, R44, R47). -/
def Path.leaving (x : Path) : Path :=
  { x with
    state := .releasing, posted := none, window := none, held := none, settleEnd := none, lockEnd := none
    blockEnd := none, contentEnd := none }

/-- A path leaves its carrier: it is RELEASING while its earliest detach is ahead or a result of it is outstanding,
and else detaches at once, and its feed serves its waiting list (R22, R47). -/
def State.leaves (p : Fin 8) (s : State) : State :=
  let x := s.path p
  if x.outbox = [] ∧ hasPassed s.clock x.earliestDetach = true then
    let u := s.setPath p (s.recovering x)
    match x.tap with
    | some f => u.serve f
    | none => u
  else s.setPath p x.leaving

/-- The result of a measurement, or of a tune that carried none, that ended without a window (R60, R61). -/
def unrun (p : Fin 8) (c : Nat) (m : Option Meas) (q : Requester) (o : MeasOutcome) (t : Stamp) : Result where
  path := p
  carrier := c
  cls := m.map (·.cls)
  requester := (m.map (·.requester)).getD q
  programmed := m.bind fun y => if y.cls = .content then none else some y.window
  counted := 0
  outcome := o
  locked := 0
  levelSum := 0
  levelAvg := none
  merSum := 0
  erroredSum := 0
  observation := none
  announcement := none
  stamp := t

/-- The result of a window as its figures stand (R60, Table 5-3). -/
def Window.figures (w : Window) (p : Fin 8) (c : Nat) (o : MeasOutcome) (a : Option Announcement) (t : Stamp) :
    Result where
  path := p
  carrier := c
  cls := some w.meas.cls
  requester := w.meas.requester
  programmed := if w.meas.cls = .content then none else some w.meas.window
  counted := w.counted
  outcome := o
  locked := w.locked
  levelSum := w.levelSum
  levelAvg := if w.counted = 0 then none else some (w.levelSum / w.counted)
  merSum := w.merSum
  erroredSum := w.erroredSum
  observation := w.observation
  announcement := a
  stamp := t

/-- What a path does once the window `w` has handed its result over, at `base` (R42): its held measure starts without
its lead-in, or it leaves the carrier, or keeps it open. -/
def State.windowOver (p : Fin 8) (w : Window) (base : Stamp) (s : State) : State :=
  match (s.path p).held with
  | some m =>
    s.setPath p
      { s.path p with
        state := .measuring, posted := none, held := none
        window := some
          { meas := m, lead := 0, leadDone := 0, counted := 0, locked := 0, levelSum := 0, merSum := 0
            erroredSum := 0, observation := none
            gathering := if m.cls = .content then some ⟨none, []⟩ else none, cut := false }
        blockEnd := some (base + 50)
        contentEnd := if m.cls = .content then some (base + BitVec.ofNat 32 s.params.contentTimeout) else none }
  | none =>
    if w.meas.release = true then s.leaves p
    else s.setPath p { s.path p with state := .locked, window := none, blockEnd := none, contentEnd := none }

/-- The sent entries of a list whose service id no earlier one has, in their order (R64). -/
def firstByServiceId : List SentEntry → List SentEntry
  | [] => []
  | e :: r => e :: (firstByServiceId r).filter fun d => decide (d.serviceId ≠ e.serviceId)

/-- A list whose entry is over and rests `n` ticks from now (R77, R78). -/
def State.listRests (s : State) (n : Nat) (l : SweepList) : SweepList :=
  { l with
    rest := n, restBegan := some s.clock, stage := .notBegun, current := none, direct := false
    state := if l.state = .suspended then .suspended else .resting
    resume := if l.state = .suspended then some .resting else l.resume }

/-- `n` bytes of a record from an offset. -/
def bytesAt (l : List Byte) (offset n : Nat) : List Byte := (l.drop offset).take n

/-- A bit of a presence field or of a set of flags. -/
def bitIf (n : Nat) (b : Bool) : Nat := if b then 2 ^ n else 0

/-- The body length of a request kind whose length does not vary (Table 13-4). -/
def bodyLength (kind : Nat) : Option Nat :=
  match kind with
  | 0x01 => some 12
  | 0x02 | 0x03 => some 1
  | 0x08 => some 4
  | 0x09 => some 2
  | 0x11 => some 0
  | 0x19 => some 7
  | 0x1A => some 3
  | 0x20 | 0x21 => some 2
  | 0x22 => some 5
  | 0x23 => some 1
  | 0x28 => some 3
  | 0x30 | 0x31 | 0x32 | 0x33 => some 0
  | 0x34 => some 1
  | 0x38 => some 6
  | 0x39 => some 4
  | 0x3A => some 2
  | 0x40 => some 6
  | 0x41 => some 1
  | 0x42 => some 4
  | 0x43 | 0x44 => some 1
  | 0x50 | 0x51 | 0x52 | 0x53 | 0x56 => some 2
  | 0x54 | 0x55 => some 3
  | 0x57 => some 0
  | 0x60 => some 1
  | 0x61 => some 2
  | _ => none

/-- The bytes of a PARAM_SET item (Table 13-4). -/
def ParamItem.bytes : ParamItem → List Byte
  | .one n v => byteOf n :: le16 v
  | .two n lmin lmax => byteOf n :: le16 lmin ++ le16 lmax

/-- An item as a PARAM_SET body can carry it: two values for the level windows and one for every other number (R185). -/
def ParamItem.carried : ParamItem → Bool
  | .one n v => decide (n < 256 ∧ ¬ (27 ≤ n ∧ n ≤ 29) ∧ v < 65536)
  | .two n lmin lmax => decide (27 ≤ n ∧ n ≤ 29 ∧ lmin < 65536 ∧ lmax < 65536)

/-- What a slot lets go of (R115): an orphan to which no slot now refers is freed. The state left, and the report FREED of
its service, unless that was freed with it. That the report names the freed candidate's carrier is a DESIGN CHOICE
(assumption log 40). -/
def State.lets (old : Option CandName) (u : State) : State × List RankReport :=
  match old with
  | none => (u, [])
  | some n =>
    match u.candidate? n with
    | none => (u, [])
    | some (k, z) =>
      if z.orphan = true ∧ u.referred n = false then
        let w := u.freeCandidate n
        (w, if w.service k = none then [] else [w.rankReport k .freed (some n.carrier) none])
      else (u, [])

/-- The Score Unit reports a carrier, whose reception fields a step has changed, to each service with a candidate on it
(R103, R112). -/
def State.tells (c : Nat) (cause : RankCause) (before after : Reception) (s : State) : State :=
  s.handReports ((s.servicesOn c).map fun k => s.rankReport k cause (some c)
    (some
      { carrier := c, cause := cause, stateBefore := before.state, standingBefore := before.standing
        stateAfter := after.state, standingAfter := after.standing, missesAfter := after.misses }))

/-- The end of a hold-down or a bar that begins now. -/
def State.holdDownEnd (s : State) : Stamp := s.clock + BitVec.ofNat 32 (1000 * s.params.holdDown)

/-- A candidate that its service lists, where it lists it, is no orphan. -/
def State.noOrphan (s : State) (n : CandName) : Prop := ∀ k x, s.candidate? n = some (k, x) → x.orphan = false

end Sys2Proof.Machine
end

