-- ==== Sys2Proof/Certificates/Slice0/Obligations.lean ====
section
/-! DEFINITION. The statements for the provers. Each says what a command, or the module, does in every state that
meets its hypotheses. Where a command lets the Sweep Engine or the Lineup Controller act on after its own effect, the
next state is the stated one up to `SweepFrame` or `LineupFrame`, which say what those may change; `runEngine` is the
Sweep Engine acting until it has nothing to do. -/

open Sys2Proof Sys2Proof.Machine

/-! ## The machine -/

/-- A step runs the command at the front of the queue with the queue's rest. With no command waiting, the module's
own event that is due happens, or one millisecond passes. The queue and the idle step are the model's choice
(assumption logs 1 and 6). -/
def Obligations.StepRunsFrontCommand : Prop :=
  (∀ (c : Instr) (rest : List Instr) (s : State), s.pending = c :: rest →
    step s = exec c { s with pending := rest })
  ∧ ∀ s : State, s.pending = [] →
    (∀ c, s.dueEvent = some c → step s = exec c s)
    ∧ (s.dueEvent = none → step s = .next { s with clock := s.clock + 1 })

/-- No command stops the module (the model's choice, assumption log 33): each has a next state, in which the queue of
waiting commands, the model's own (log 1), is untouched and, unless the command is a cold start, the clock too (section
1.5, R178). -/
def Obligations.EveryCommandCompletes : Prop :=
  ∀ (c : Instr) (s : State), ∃ t, exec c s = .next t
    ∧ t.pending = s.pending ∧ (c ≠ .reset → c ≠ .powerOn → c ≠ .restartAll → t.clock = s.clock)

/-- RESET and POWER_ON bring the cold-start condition, but for the queue of commands and the count of free values,
which are the model's own (assumption log 1); and what that condition is, block by block (R14, R15, R30, R72, R73,
R83, R107, R108, R129, R155, R169, R178, R192), with a first tick of 100 ms (R80) and every parameter at its default (R186,
Tables 12-3, 7-3 and 7-4). -/
def Obligations.ColdStartValues : Prop :=
  (∀ s : State,
    exec .reset s = .next { State.reset with pending := s.pending, freeCount := s.freeCount }
    ∧ exec .powerOn s = .next { State.reset with pending := s.pending, freeCount := s.freeCount })
  ∧ State.reset.carriers = [] ∧ State.reset.services = [] ∧ State.reset.bindings = [] ∧ State.reset.planMemory = []
  ∧ State.reset.recheckQueue = [] ∧ State.reset.survey = .stopped ∧ State.reset.clock = 0 ∧ State.reset.tickEnd = 100
  ∧ (∀ f, State.reset.feed f = ⟨.noKind, false, 0, .off, none, [], 0, none, none, none, none⟩)
  ∧ (∀ p, (State.reset.path p).mode = .off ∧ (State.reset.path p).pendingMode = none
      ∧ (State.reset.path p).state = .parked ∧ (State.reset.path p).tuned = none
      ∧ (State.reset.path p).resultOutstanding = false)
  ∧ (∀ n, (State.reset.sweep n).descriptor = none ∧ (State.reset.sweep n).state = .idle)
  ∧ (∀ i, (State.reset.slot i).state = .vacant ∧ (State.reset.slot i).binding = none)
  ∧ (∀ h, (State.reset.shelf h).state = .unknown ∧ (State.reset.shelf h).nextTag = 0
      ∧ (State.reset.shelf h).queue = [] ∧ (State.reset.shelf h).inFlight = none
      ∧ (State.reset.shelf h).timeouts = 0 ∧ (State.reset.shelf h).input = .hunting)
  ∧ State.reset.notices = [] ∧ State.reset.overflowCount = 0 ∧ State.reset.overflowMarker = false
  ∧ State.reset.overflowTime = 0 ∧ State.reset.masks = 0 ∧ State.reset.summary = 0
  ∧ State.reset.replies = [] ∧ State.reset.attn = false
  ∧ State.reset.params =
    { settleTerrestrial := 60, settleCable := 40, settleSatellite := 80, lockTimeout := 300, minOccupancy := 200
      releaseRecovery := 20, tuneSpacing := 10, feedSettle := 40, contentTimeout := 3000, smoothing := 4, margin := 40
      winCount := 3, holdDown := 120, staleLimit := 600, missLimit := 3, recheckWindow := 4, watermark := 1
      prescaler := 9, requiredMer := #v[50, 85, 115, 250, 310, 60, 120, 185], windowTerrestrial := ⟨90, 150⟩
      windowCable := ⟨100, 150⟩, windowSatellite := ⟨100, 160⟩ }

/-- The laws of the state hold at cold start. -/
def Obligations.LawsHoldAtReset : Prop :=
  State.reset.noticesOk = true ∧ State.reset.tapsOk = true ∧ State.reset.slotsOk = true
  ∧ State.reset.rechecksOk = true ∧ State.reset.tablesOk = true

/-! ## Laws that every step keeps -/

/-- The law of the notice queue (R188). -/
def Obligations.NoticeQueueLawKept : Prop :=
  ∀ s t : State, s.noticesOk = true → step s = .next t → t.noticesOk = true

/-- No feed has more than four paths attached (R18). -/
def Obligations.TapLawKept : Prop :=
  ∀ s t : State, s.tapsOk = true → step s = .next t → t.tapsOk = true

/-- The law of the slots (R130). -/
def Obligations.SlotLawKept : Prop :=
  ∀ s t : State, s.slotsOk = true → step s = .next t → t.slotsOk = true

/-- The law of the Recheck Queue (R83). -/
def Obligations.RecheckQueueLawKept : Prop :=
  ∀ s t : State, s.rechecksOk = true → step s = .next t → t.rechecksOk = true

/-- The Carrier Table, Plan Memory and the service table keep their canonical form (R1, R70, R107), and the aliases stay in
rising order of network id and then service id, no pair twice (R108, R195). -/
def Obligations.TablesStayCanonical : Prop :=
  ∀ s t : State, s.tablesOk = true → step s = .next t → t.tablesOk = true

/-! ## The Control Link -/

/-- A frame that arrives whole behind any bytes that are no start byte is the request it carries (R179, R180, R194). The
frame is the layout of Table 13-1: the start byte, the length, the kind, the tag, the body and the check value, low byte
first. The check value is the register of the generator x^16 + x^12 + x^5 + 1, which starts at 0xFFFF and takes the bits of
each covered byte in line order, the most significant first, without a final inversion (R180). That FRAME_ERROR carries a
run of characters, which may hold whole good frames, is the model's choice (assumption log 10). -/
def Obligations.FrameRoundTrip : Prop :=
  (∀ (noise : List Byte) (kind tag : Byte) (body : List Byte) (s : State),
    s.frameInput = .hunting → (∀ b ∈ noise, b ≠ 0xA5) → body.length ≤ 1024 →
    exec (.frameError (goodChars (noise ++ frameBytes kind tag body))) s = .next (s.request kind tag body))
  ∧ (∀ (kind tag : Byte) (body : List Byte),
    let covered := byteOf body.length :: byteOf (body.length / 256) :: kind :: tag :: body
    frameBytes kind tag body = 0xA5 :: covered ++ checkBytes covered)
  ∧ ∀ covered : List Byte,
    -- the register takes one bit
    let shifted (r : BitVec 16) (bit : Bool) : BitVec 16 :=
      if r.msb = bit then r <<< 1 else (r <<< 1) ^^^ BitVec.ofNat 16 (2 ^ 12 + 2 ^ 5 + 1)
    let bits := covered.flatMap fun b => [7, 6, 5, 4, 3, 2, 1, 0].map fun k => b.getLsbD k
    let value := (bits.foldl shifted 0xFFFF).toNat
    checkBytes covered = [byteOf value, byteOf (value / 256)]

/-- Each request that is taken gets one reply, at the end of the sequence (behind the FRAME_ERROR of a frame that its
arrival finds late, R179), with 0x80 added to its kind and with its tag; one of an unlisted kind gets UNKNOWN_KIND, and one
whose body has a length that its kind does not allow gets BAD_LENGTH, and both change nothing else. That any other frame in
reception is dropped is the model's choice (assumption log 8). The lengths are those of Table 13-4; a PARAM_SET body must
divide into items and a LIST_WRITE body hold its records, each a 0 or a 1 with eight bytes (R71, R182, R183, R185, R194,
R195). -/
def Obligations.RequestGetsOneReply : Prop :=
  ∀ (c : Instr) (r : Request) (s : State), requestOf c = some r → s.takes = true → r.body.length ≤ 1024 →
    let kind := if r.kind.toNat < 0x80 then r.kind + 0x80 else r.kind
    let refused (code : ResultCode) : Prop :=
      exec c s = .next { s.hunts with replies := s.hunts.replies ++ [⟨kind, r.tag, code, []⟩] }
    (∃ (t : State) (a : Answer),
      exec c s = .next t ∧ t.replies = s.hunts.replies ++ [⟨kind, r.tag, a.code, a.content⟩])
    ∧ (¬ r.kind.toNat ∈ requestKinds → refused .unknownKind)
    ∧ (∀ n, bodyLength r.kind.toNat = some n → r.body.length ≠ n → refused .badLength)
    ∧ (r.kind = 0x10 → (paramItems r.body = none ∨ r.body = []) → refused .badLength)
    ∧ (r.kind = 0x18 → r.body.length < 4 → refused .badLength)
    ∧ (∀ f0 f1 c0 c1 records, r.kind = 0x18 → r.body = f0 :: f1 :: c0 :: c1 :: records →
      rawEntries (c0.toNat + 256 * c1.toNat) records = none → refused .badLength)
    -- which bodies divide into items, and which hold their records
    ∧ (paramItems r.body ≠ none ↔ ∃ l : List ParamItem, (∀ i ∈ l, i.carried = true) ∧ r.body = l.flatMap ParamItem.bytes)
    ∧ ∀ (n : Nat) (records : List Byte),
      rawEntries n records ≠ none ↔ ∃ l : List (List Byte), l.length = n ∧ records = l.flatten
        ∧ ∀ x ∈ l, x = [0] ∨ ∃ y, x = 1 :: y ∧ y.length = 8

/-- A request that completes while four are outstanding, or that is too long, is discarded and owes FRAME_ERROR, which
takes one place at a time, behind every reply already owed and behind the requests that wait for a restart; one that
completes while a restart is awaited waits. A request is outstanding while its reply has not been sent or it waits; no
FRAME_ERROR counts. A frame whose next byte is late has been discarded before the request (R176,
R179, R181, R182). That the requests that wait count among those whose replies are owed is the model's reading (assumption
log 11), and that any other frame in reception is dropped its choice (log 8). -/
def Obligations.RequestNotTaken : Prop :=
  ∀ (c : Instr) (r : Request) (s : State), requestOf c = some r →
    let u := s.hunts
    let unowed := (∀ x ∈ u.replies, x.code ≠ .frameError) ∧ .frameError ∉ u.waiting
    ((1024 < r.body.length ∨ 4 ≤ s.outstanding) →
      (unowed → u.waiting = [] →
        exec c s = .next { u with replies := u.replies ++ [⟨0xFF, 0, .frameError, []⟩] })
      ∧ (unowed → u.waiting ≠ [] →
        exec c s = .next { u with waiting := u.waiting ++ [.frameError] })
      ∧ (¬ unowed → exec c s = .next u))
    ∧ (r.body.length ≤ 1024 → s.outstanding < 4 → (s.restarting ≠ none ∨ s.waiting ≠ []) →
        exec c s = .next { u with waiting := u.waiting ++ [.request r] })
    -- a request is outstanding while its reply has not been sent and while it waits; a FRAME_ERROR counts in neither
    ∧ s.outstanding = (s.replies.filter fun x => decide (x.code ≠ .frameError)).length
      + (s.waiting.filter fun x => decide (x ≠ .frameError)).length

/-- A frame whose check value is wrong is discarded: on the Control Link it owes FRAME_ERROR, behind the requests that
wait for a restart where there are any (the model's reading, assumption log 11), on a Shelf Line it leaves no trace. So is a
frame whose two length bytes give more than 1024, at the second of them, and a frame in reception into which a character with
a bad stop bit falls; a receiver that hunts passes such a character over. On a Shelf Line a frame whose next byte comes more
than 20 ms after its latest is discarded before that byte is taken, and a good frame of a kind or a length that no reply has
leaves no trace. That a Shelf Line receiver takes a length above 1024 and such a frame at these moments (log 41), and a bad
stop bit as the Control Link does (log 10), is the model's choice. FRAME_GAP_TIMEOUT discards a frame whose latest byte is
more than 20 ms old, and a request that completes then finds it so discarded. That FRAME_GAP_TIMEOUT finds nothing
otherwise (assumption log 7), and that the characters of one command arrive as a run (log 10), is the model's choice.
REPLY_SENT takes the reply at the head of the sequence off it, whose frame is the layout of Table 13-1 over its code and
content (R154, R179, R180, R181, R182, R195). -/
def Obligations.BadFramesAreDiscarded : Prop :=
  (∀ (kind tag c0 c1 l0 l1 : Byte) (body : List Byte) (h : Fin 4) (s : State), body.length ≤ 1024 →
    let bad := [0xA5] ++ (le16 body.length ++ kind :: tag :: body) ++ [c0, c1]
    let long : List Byte := [0xA5, l0, l1]
    let good := frameBytes kind tag body
    let reply := (kind = 0x81 ∨ kind = 0x85) ∧ body.length = 0 ∨ (kind = 0x82 ∨ kind = 0x84) ∧ body.length = 1
      ∨ kind = 0x83 ∧ body.length = 2
    ([c0, c1] ≠ checkBytes (le16 body.length ++ kind :: tag :: body) →
      (s.frameInput = .hunting → exec (.frameError (goodChars bad)) s = .next s.discards)
      ∧ ((s.shelf h).input = .hunting → exec (.shelfFrameDiscard h (goodChars bad)) s = .next s))
    ∧ (1024 < l0.toNat + 256 * l1.toNat →
      (s.frameInput = .hunting → exec (.frameError (goodChars long)) s = .next s.discards)
      ∧ ((s.shelf h).input = .hunting → exec (.shelfFrameDiscard h (goodChars long)) s = .next s))
    ∧ ((s.shelf h).input = .hunting → ¬ reply → exec (.shelfFrameDiscard h (goodChars good)) s = .next s))
  ∧ (∀ (b : Byte) (h : Fin 4) (s : State),
    let x := s.shelf h
    (s.frameInput = .hunting → exec (.frameError [⟨b, false⟩]) s = .next s)
    ∧ (∀ got last, s.frameInput = .receiving got last →
      exec (.frameError [⟨b, false⟩]) s = .next ({ s with frameInput := .hunting } : State).discards
      ∧ ((s.clock - last).toNat ≤ 20 → got = [] →
        exec (.frameError [⟨b, true⟩]) s = .next { s with frameInput := .receiving [b] s.clock }))
    ∧ (x.input = .hunting → exec (.shelfFrameDiscard h [⟨b, false⟩]) s = .next s)
    ∧ ∀ got last, x.input = .receiving got last →
      exec (.shelfFrameDiscard h [⟨b, false⟩]) s = .next (s.setShelf h { x with input := .hunting })
      ∧ ((s.clock - last).toNat ≤ 20 → got = [] →
        exec (.shelfFrameDiscard h [⟨b, true⟩]) s = .next (s.setShelf h { x with input := .receiving [b] s.clock }))
      ∧ (20 < (s.clock - last).toNat → ∀ chars,
        exec (.shelfFrameDiscard h chars) s
          = exec (.shelfFrameDiscard h chars) (s.setShelf h { x with input := .hunting })))
  ∧ ∀ s : State,
    (∀ got last, s.frameInput = .receiving got last → 20 < (s.clock - last).toNat →
      exec .frameGapTimeout s = .next ({ s with frameInput := .hunting } : State).discards
      ∧ ∀ (c : Instr) (r : Request) (u : State), requestOf c = some r → exec .frameGapTimeout s = .next u →
        exec c s = exec c u)
    ∧ (∀ got last, s.frameInput = .receiving got last → (s.clock - last).toNat ≤ 20 →
      exec .frameGapTimeout s = .next s)
    ∧ (s.frameInput = .hunting → exec .frameGapTimeout s = .next s)
    ∧ exec .replySent s = .next { s with replies := s.replies.tail }
    ∧ ∀ r rest, s.replies = r :: rest →
      let covered := le16 (r.content.length + 1) ++ r.kind :: r.tag :: byteOf r.code.code :: r.content
      s.linkFrame = some (0xA5 :: covered ++ checkBytes covered)

/-! ## The frequency plan -/

/-- PLAN_PUT on an unused index creates the carrier as written, with the creation values of Table 2-1, and touches
nothing else. The first of its fields that is out of its range, in the order of the body, gives OUT_OF_RANGE with its
number: a feed above 5 or of kind NONE, and the frequency, band, polarisation, rate and modulation by the feed's kind, then
the enabled flag; an index, which is field 1 and one byte, is always in range (R2, R3, R5, R6, Table 2-2). -/
def Obligations.PlanPutCreates : Prop :=
  (∀ (s : State) (tag i : Byte) (p : Plan), s.takes = true → s.carrier i.toNat = none → s.held i.toNat = false →
    p.fits (s.feed p.feed).kind = true →
    exec (.planPut tag (p.body i)) s
      = .next ((s.hunts.setCarrier i.toNat
          ⟨p, ⟨.unmeasured, none, none, none, 0, 0, none, none, none⟩, ⟨.new, none, none, false⟩⟩).owe 0x81 tag
            ⟨.ok, []⟩))
  ∧ ∀ (s : State) (tag i b1 f0 f1 f2 f3 b pol r0 r1 m e : Byte), s.takes = true →
    let range (n : Byte) : Prop :=
      exec (.planPut tag [i, b1, f0, f1, f2, f3, b, pol, r0, r1, m, e]) s
        = .next (s.hunts.owe 0x81 tag ⟨.outOfRange, [n]⟩)
    (6 ≤ b1.toNat → range 2)
    ∧ ∀ feed : Fin 6, feed.1 = b1.toNat →
      let kind := (s.feed feed).kind
      let frequency := f0.toNat + 256 * f1.toNat + 65536 * f2.toNat + 16777216 * f3.toNat
      let rate := r0.toNat + 256 * r1.toNat
      let frequencyOk : Prop :=
        match kind with
        | .terrestrial => 170000 ≤ frequency ∧ frequency ≤ 862000
        | .cable => 110000 ≤ frequency ∧ frequency ≤ 862000
        | .satellite => 950000 ≤ frequency ∧ frequency ≤ 2150000
        | .noKind => False
      -- a band or a polarisation: one of its two codes on a SATELLITE feed, absent on another
      let settingOk (x : Byte) : Prop := if kind = .satellite then x = 0 ∨ x = 1 else x = 0xFF
      let rateOk : Prop :=
        match kind with
        | .terrestrial => 6 ≤ rate ∧ rate ≤ 8
        | .cable => 1000 ≤ rate ∧ rate ≤ 7200
        | .satellite => 1000 ≤ rate ∧ rate ≤ 45000
        | .noKind => False
      let modulationOk : Prop :=
        match kind with
        | .terrestrial => m = 5 ∨ m = 6 ∨ m = 7
        | .cable => m = 3 ∨ m = 4
        | .satellite => m = 0 ∨ m = 1 ∨ m = 2
        | .noKind => False
      (kind = .noKind → range 2)
      ∧ (kind ≠ .noKind →
        (¬ frequencyOk → range 3)
        ∧ (frequencyOk → ¬ settingOk b → range 4)
        ∧ (frequencyOk → settingOk b → ¬ settingOk pol → range 5)
        ∧ (frequencyOk → settingOk b → settingOk pol → ¬ rateOk → range 6)
        ∧ (frequencyOk → settingOk b → settingOk pol → rateOk → ¬ modulationOk → range 7)
        ∧ (frequencyOk → settingOk b → settingOk pol → rateOk → modulationOk → 1 < e.toNat → range 8))

/-- PLAN_PUT on an enabled carrier is refused IN_USE. On a disabled one that no path holds it rewrites the plan: a
change of feed, frequency or setting returns both the reception and the content fields to their creation values, a
change of rate or modulation alone the reception fields, and a change of the enabled flag neither. A change of feed,
frequency or setting is reported REPLANNED, releases the candidates on the carrier, posts CARRIER_CHANGED with reason
PLAN, and is reported PLAN; the order of the two reports is the model's reading (assumption log 21). A change of rate or
modulation is reported REPLANNED, and no ENABLED report follows; where nothing but the enabled flag changes, to yes, each
service with a candidate on the carrier is reported ENABLED (R5, R7, R103, R112, R113, R116). A path holds the carrier that
it is tuned to in WAIT_FEED to RELEASING, and in RECOVERING the one that its held tune names (R4). -/
def Obligations.PlanPutRewrites : Prop :=
  (∀ (s : State) (c : Nat),
    (s.held c = true ↔ ∃ p : Fin 8,
      ((s.path p).state ∈ [.waitFeed, .settling, .locking, .locked, .measuring, .releasing] ∧ (s.path p).tuned = some c)
        ∨ (s.path p).state = .recovering ∧ ∃ h, (s.path p).heldTune = some h ∧ h.carrier = c)
    ∧ s.servicesOn c = (s.services.filter fun e => e.2.cands.any fun y => decide (y.name.carrier = c)).map (·.1))
  ∧ ∀ (s : State) (tag i : Byte) (p : Plan) (x : Carrier), s.takes = true → s.carrier i.toNat = some x →
    p.fits (s.feed p.feed).kind = true →
    (x.plan.enabled = true →
      exec (.planPut tag (p.body i)) s = .next (s.hunts.owe 0x81 tag ⟨.inUse, []⟩))
    ∧ (x.plan.enabled = false → s.held i.toNat = true →
      exec (.planPut tag (p.body i)) s = .next (s.hunts.owe 0x81 tag ⟨.busy, []⟩))
    ∧ (x.plan.enabled = false → s.held i.toNat = false → ∃ t,
      exec (.planPut tag (p.body i)) s = .next t
      ∧ t.clock = s.clock ∧ t.params = s.params ∧ t.planMemory = s.planMemory ∧ t.bindings = s.bindings
      ∧ t.replies = s.hunts.replies ++ [⟨0x81, tag, .ok, []⟩]
      ∧ (∀ d, d ≠ i.toNat → t.carrier d = s.carrier d)
      ∧ t.carrier i.toNat = some
          (if p.feed ≠ x.plan.feed ∨ p.frequency ≠ x.plan.frequency ∨ p.setting ≠ x.plan.setting then
            ⟨p, Reception.creation, Content.creation⟩
          else if p.rate ≠ x.plan.rate ∨ p.modulation ≠ x.plan.modulation then
            ⟨p, Reception.creation, x.content⟩
          else ⟨p, x.reception, x.content⟩))
    ∧ (x.plan.enabled = false → s.held i.toNat = false →
      (p.feed ≠ x.plan.feed ∨ p.frequency ≠ x.plan.frequency ∨ p.setting ≠ x.plan.setting) →
      let off : Plan := { p with enabled := false }
      let a := (s.hunts.setCarrier i.toNat ⟨off, Reception.creation, x.content⟩).tells i.toNat .replanned x.reception
        Reception.creation
      let b := (((a.setCarrier i.toNat ⟨off, Reception.creation, Content.creation⟩).releaseCandidates i.toNat).post
        .carrierChanged i.toNat [2]).setCarrier i.toNat ⟨p, Reception.creation, Content.creation⟩
      exec (.planPut tag (p.body i)) s
        = .next ((b.reportServices (a.servicesOn i.toNat) .plan (some i.toNat)).owe 0x81 tag ⟨.ok, []⟩))
    ∧ (x.plan.enabled = false → s.held i.toNat = false →
      p.feed = x.plan.feed → p.frequency = x.plan.frequency → p.setting = x.plan.setting →
      let replanned := s.hunts.setCarrier i.toNat ⟨p, Reception.creation, x.content⟩
      let written := s.hunts.setCarrier i.toNat { x with plan := p }
      let out (t : State) : Prop := exec (.planPut tag (p.body i)) s = .next (t.owe 0x81 tag ⟨.ok, []⟩)
      ((p.rate ≠ x.plan.rate ∨ p.modulation ≠ x.plan.modulation) →
        out (replanned.handReports ((replanned.servicesOn i.toNat).map fun k =>
          replanned.rankReport k .replanned (some i.toNat)
            (some
              { carrier := i.toNat, cause := .replanned, stateBefore := x.reception.state
                standingBefore := x.reception.standing, stateAfter := .unmeasured, standingAfter := none
                missesAfter := 0 }))))
      ∧ (p.rate = x.plan.rate → p.modulation = x.plan.modulation →
        (p.enabled = true →
          out (written.handReports ((written.servicesOn i.toNat).map fun k =>
            written.rankReport k .enabled (some i.toNat) none)))
        ∧ (p.enabled = false → out written)))

/-- PLAN_DISABLE: an unused index gives NOT_FOUND, a disabled carrier is left as it is, and an enabled one keeps all
but its enabled flag and loses its places in the Recheck Queue. Each LIST path that is LOCKED and idle on it takes
RELEASE, in path order: it is RELEASING, or RECOVERING where nothing holds its detach. Then the services with a candidate
on the carrier are reported with cause DISABLED, and the Sweep Engine acts (R8, R47, R113). -/
def Obligations.PlanDisableTakesOutOfService : Prop :=
  ∀ (s : State) (tag i : Byte), s.takes = true →
    (s.carrier i.toNat = none → exec (.planDisable tag [i]) s = .next (s.hunts.owe 0x82 tag ⟨.notFound, []⟩))
    ∧ ∀ x, s.carrier i.toNat = some x →
      (x.plan.enabled = false → exec (.planDisable tag [i]) s = .next (s.hunts.owe 0x82 tag ⟨.ok, []⟩))
      ∧ (x.plan.enabled = true →
        let off : State :=
          ({ s.hunts with recheckQueue := s.recheckQueue.filter fun e => decide (e.carrier ≠ i.toNat) } :
            State).setCarrier i.toNat { x with plan := { x.plan with enabled := false } }
        let idle (v : State) (p : Fin 8) : Prop :=
          (v.path p).mode = .list ∧ (v.path p).state = .locked ∧ (v.path p).tuned = some i.toNat
        let released := allPaths.foldl (fun v p => if idle v p then v.leaves p else v) off
        let t := ((released.reportServices (released.servicesOn i.toNat) .disabled (some i.toNat)).runEngine).owe 0x82
          tag ⟨.ok, []⟩
        exec (.planDisable tag [i]) s = .next t
        ∧ LineupFrame (released.owe 0x82 tag ⟨.ok, []⟩) t
        ∧ (∀ p, idle s p → (∀ f, p ∉ (s.feed f).waiting) →
          (released.path p).state = .releasing ∨ (released.path p).state = .recovering)
        ∧ t.carrier i.toNat = some { x with plan := { x.plan with enabled := false } }
        ∧ (∀ d, d ≠ i.toNat → t.carrier d = s.carrier d)
        ∧ t.replies = s.hunts.replies ++ [⟨0x82, tag, .ok, []⟩]
        ∧ ∀ e ∈ t.recheckQueue, e.carrier ≠ i.toNat)

/-- PLAN_ERASE: an unused index gives NOT_FOUND, an enabled carrier IN_USE, a carrier that a path holds BUSY, and one
with a candidate to which a slot refers IN_USE. Else the candidates on the carrier are freed, their services are reported
with cause ERASED, the index becomes unused and Plan Memory stays (R11, R113, R114). Which path holds a carrier, and that a
slot refers to its active source and to its target, is said as R4 and R115 give it. -/
def Obligations.PlanEraseFreesIndex : Prop :=
  (∀ (s : State) (c : Nat) (n : CandName),
    (s.held c = true ↔ ∃ p : Fin 8,
      ((s.path p).state ∈ [.waitFeed, .settling, .locking, .locked, .measuring, .releasing] ∧ (s.path p).tuned = some c)
        ∨ (s.path p).state = .recovering ∧ ∃ h, (s.path p).heldTune = some h ∧ h.carrier = c)
    ∧ (s.referred n = true ↔ ∃ j : Fin 64, (s.slot j).active = some n ∨ (s.slot j).target = some n)
    ∧ s.candidatesOn c = s.services.flatMap fun e => e.2.cands.filter fun y => decide (y.name.carrier = c))
  ∧ ∀ (s : State) (tag i : Byte), s.takes = true →
    (s.carrier i.toNat = none → exec (.planErase tag [i]) s = .next (s.hunts.owe 0x83 tag ⟨.notFound, []⟩))
    ∧ ∀ x, s.carrier i.toNat = some x →
      (x.plan.enabled = true → exec (.planErase tag [i]) s = .next (s.hunts.owe 0x83 tag ⟨.inUse, []⟩))
      ∧ (x.plan.enabled = false → s.held i.toNat = true →
        exec (.planErase tag [i]) s = .next (s.hunts.owe 0x83 tag ⟨.busy, []⟩))
      ∧ (x.plan.enabled = false → s.held i.toNat = false →
        (∃ y ∈ s.candidatesOn i.toNat, s.referred y.name = true) →
        exec (.planErase tag [i]) s = .next (s.hunts.owe 0x83 tag ⟨.inUse, []⟩))
      ∧ (x.plan.enabled = false → s.held i.toNat = false →
        (∀ y ∈ s.candidatesOn i.toNat, s.referred y.name = false) →
        let freed := (s.candidatesOn i.toNat).foldl (fun v y => v.freeCandidate y.name) s.hunts
        let told := freed.reportServices (s.servicesOn i.toNat) .erased (some i.toNat)
        ∃ t, t = ({ told with carriers := Store.del told.carriers i.toNat } : State).owe 0x83 tag ⟨.ok, []⟩ ∧
        exec (.planErase tag [i]) s = .next t
        ∧ t.carrier i.toNat = none ∧ (∀ d, d ≠ i.toNat → t.carrier d = s.carrier d)
        ∧ t.clock = s.clock ∧ t.params = s.params ∧ t.planMemory = s.planMemory ∧ t.bindings = s.bindings
        ∧ t.replies = s.hunts.replies ++ [⟨0x83, tag, .ok, []⟩])

/-! ## Feeds -/

/-- FEED_SET on a feed that nobody uses writes kind, supply flag and preference, and drops the current setting when
the kind changes. A new preference is reported, with cause PREFERENCE, to each service with a candidate on a carrier of the
feed, in rising order of key; the request touches nothing else. A field out of its
range is OUT_OF_RANGE on its number; a feed with paths attached or waiting is IN_USE, a change of kind or supply flag of a
feed that is not OFF WRONG_STATE, and a change of kind while a used carrier names the feed IN_USE (R13, R16, R113). -/
def Obligations.FeedSetWritesRecord : Prop :=
  (∀ (s : State) (f : Fin 6),
    s.users f = (allPaths.filter fun p => decide ((s.path p).tap = some f)).length
    ∧ (s.feedUsed f = true ↔ 0 < s.users f ∨ (s.feed f).waiting ≠ [])
    ∧ (s.namesFeed f = true ↔ ∃ e ∈ s.carriers, e.2.plan.feed = f))
  ∧
  (∀ (s : State) (tag b0 b1 b2 b3 : Byte), s.takes = true →
    let range (n : Byte) : Prop :=
      exec (.feedSet tag [b0, b1, b2, b3]) s = .next (s.hunts.owe 0x88 tag ⟨.outOfRange, [n]⟩)
    (6 ≤ b0.toNat → range 1)
    ∧ (b0.toNat < 6 → 4 ≤ b1.toNat → range 2)
    ∧ (b0.toNat < 6 → b1.toNat < 4 → (2 ≤ b2.toNat ∨ b1 = 2 ∧ b2 = 0) → range 3)
    ∧ (b0.toNat < 6 → b1.toNat < 4 → b2.toNat < 2 → (b1 = 2 → b2 = 1) → 8 ≤ b3.toNat → range 4))
  ∧ (∀ (s : State) (tag : Byte) (f : Fin 6) (k : FeedKind) (u : Bool) (pr : Nat), s.takes = true →
    pr ≤ 7 → (k = .satellite → u = true) →
    let refused (code : ResultCode) : Prop :=
      exec (.feedSet tag [byteOf f.1, byteOf k.code, flagByte u, byteOf pr]) s = .next (s.hunts.owe 0x88 tag ⟨code, []⟩)
    ((0 < s.users f ∨ (s.feed f).waiting ≠ []) → refused .inUse)
    ∧ (s.users f = 0 → (s.feed f).waiting = [] →
      ((k ≠ (s.feed f).kind ∨ u ≠ (s.feed f).supply) → (s.feed f).state ≠ .off → refused .wrongState)
      ∧ (k ≠ (s.feed f).kind → (s.feed f).state = .off →
        (∃ e ∈ s.carriers, e.2.plan.feed = f) → refused .inUse)))
  ∧ ∀ (s : State) (tag : Byte) (f : Fin 6) (k : FeedKind) (u : Bool) (pr : Nat), s.takes = true →
    s.feedUsed f = false → pr ≤ 7 → (k = .satellite → u = true) →
    ((s.feed f).state = .off ∨ k = (s.feed f).kind ∧ u = (s.feed f).supply) →
    (k = (s.feed f).kind ∨ s.namesFeed f = false) →
    let v : State := s.hunts.setFeed f
      { s.feed f with
        kind := k, supply := u, preference := pr
        setting := if k = (s.feed f).kind then (s.feed f).setting else none }
    -- the services with a candidate on a carrier of the feed
    let onFeed := (s.services.filter fun e => e.2.cands.any fun y =>
      decide ((s.carrier y.name.carrier).map (·.plan.feed) = some f)).map (·.1)
    (∃ t, exec (.feedSet tag [byteOf f.1, byteOf k.code, flagByte u, byteOf pr]) s = .next t
      ∧ LineupFrame (v.owe 0x88 tag ⟨.ok, []⟩) t)
    ∧ (pr ≠ (s.feed f).preference →
      exec (.feedSet tag [byteOf f.1, byteOf k.code, flagByte u, byteOf pr]) s
        = .next ((v.handReports (onFeed.map fun key => v.rankReport key .preference none none)).owe 0x88 tag
            ⟨.ok, []⟩))
    ∧ (pr = (s.feed f).preference →
      exec (.feedSet tag [byteOf f.1, byteOf k.code, flagByte u, byteOf pr]) s
        = .next ((s.hunts.setFeed f
            { s.feed f with
              kind := k, supply := u
              setting := if k = (s.feed f).kind then (s.feed f).setting else none }).owe 0x88 tag ⟨.ok, []⟩))

/-- FEED_ENABLE on: an OFF feed that nobody is attached to is ON with its fault count cleared, a SATELLITE feed without
a setting; one of kind NONE is refused WRONG_STATE and one with paths attached IN_USE; a feed in any other state stays
as it is. FEED_ENABLE off: a feed that nobody uses or waits for is OFF with its timers cancelled, its fault count, its
last tune start and its setting kept; any other is refused IN_USE. A feed number above 5 and a flag above 1 are OUT_OF_RANGE
(R17). -/
def Obligations.FeedEnableSwitches : Prop :=
  ∀ (s : State) (tag : Byte) (f : Fin 6), s.takes = true →
    ((s.feed f).state = .off → (s.feed f).kind ≠ .noKind → s.users f = 0 →
      exec (.feedEnable tag [byteOf f.1, 1]) s
        = .next ((s.hunts.setFeed f
            { s.feed f with
              state := .on, faultCount := 0
              setting := if (s.feed f).kind = .satellite then none else (s.feed f).setting }).owe 0x89 tag ⟨.ok, []⟩))
    ∧ ((s.feed f).state = .off → (s.feed f).kind = .noKind →
      exec (.feedEnable tag [byteOf f.1, 1]) s = .next (s.hunts.owe 0x89 tag ⟨.wrongState, []⟩))
    ∧ ((s.feed f).state = .off → (s.feed f).kind ≠ .noKind → s.users f ≠ 0 →
      exec (.feedEnable tag [byteOf f.1, 1]) s = .next (s.hunts.owe 0x89 tag ⟨.inUse, []⟩))
    ∧ (∀ b w : Byte, 6 ≤ b.toNat →
      exec (.feedEnable tag [b, w]) s = .next (s.hunts.owe 0x89 tag ⟨.outOfRange, [1]⟩))
    ∧ (∀ w : Byte, 1 < w.toNat →
      exec (.feedEnable tag [byteOf f.1, w]) s = .next (s.hunts.owe 0x89 tag ⟨.outOfRange, [2]⟩))
    ∧ ((s.feed f).state ≠ .off →
      exec (.feedEnable tag [byteOf f.1, 1]) s = .next (s.hunts.owe 0x89 tag ⟨.ok, []⟩))
    ∧ (s.feedUsed f = false →
      exec (.feedEnable tag [byteOf f.1, 0]) s
        = .next ((s.hunts.setFeed f
            { s.feed f with state := .off, settleEnd := none, retryEnd := none, clearEnd := none }).owe 0x89 tag
              ⟨.ok, []⟩))
    ∧ (s.feedUsed f = true →
      exec (.feedEnable tag [byteOf f.1, 0]) s = .next (s.hunts.owe 0x89 tag ⟨.inUse, []⟩))

/-- Overcurrent on a feed whose supply is on, a feed in RETRY included: with a fault count below 3 the feed is in FAULT,
the count is one higher, the setting settle and the clearing timer are cancelled, the retry delay of 1000 ms runs and
FEED_FAULT is posted. At 3 the feed is OFF with its count kept and nobody waiting, FEED_OFF is posted, and each path that
waited is cut off in arrival order: its tune, or the measure posted on it, ends NO_LOCK for its requester and it is
PARKED. The Sweep Engine then acts. A feed without supply senses nothing (R25, R26, R27). That a probe's tune with a
measure posted on it makes one record, the measure's, is the model's choice (assumption log 45). -/
def Obligations.OvercurrentFaultsFeed : Prop :=
  ∀ (s : State) (f : Fin 6),
    let cutOff (v : State) (p : Fin 8) : State :=
      match (v.path p).tuned, (v.path p).tuneRequester with
      | some c, some q => (v.deliver (unrun p c (v.path p).posted q .noLock v.clock)).rests p
      | _, _ => v.rests p
    ((s.feed f).supply = true ∧ ((s.feed f).state = .on ∨ (s.feed f).state = .setting ∨ (s.feed f).state = .retry) →
      ((s.feed f).faultCount < 3 →
        exec (.overcurrentEvent f) s
          = .next ((s.setFeed f
              { s.feed f with
                state := .fault, faultCount := (s.feed f).faultCount + 1, settleEnd := none, clearEnd := none
                retryEnd := some (s.clock + 1000) }).post .feedFault f.1 [byteOf ((s.feed f).faultCount + 1)]))
      ∧ (3 ≤ (s.feed f).faultCount →
        let off := (s.setFeed f
          { s.feed f with state := .off, settleEnd := none, clearEnd := none, retryEnd := none, waiting := [] }).post
            .feedOff f.1 []
        exec (.overcurrentEvent f) s = .next ((s.feed f).waiting.foldl cutOff off).runEngine
        ∧ ((s.feed f).waiting = [] → s.quiet → exec (.overcurrentEvent f) s = .next off)))
    ∧ ((s.feed f).supply = false ∨ (s.feed f).state = .off ∨ (s.feed f).state = .fault →
      exec (.overcurrentEvent f) s = .next s)

/-- The timers of a feed: the setting settle ends in ON and one scan of the waiting list, the retry delay in RETRY
with the settle running, the retry settle in ON with the clearing timer of 60 s running and the waiting list served,
and the clearing timer in a fault count of 0. A list that nobody waits in is left alone (R20, R22, R26, R28).
How a path comes to the feed: it attaches at once to a feed that is ON with nobody waiting, a tap free and the setting it
needs; alone on such a feed under another setting it waits and the feed changes its setting; in every other case of a feed
that is not OFF it joins the end of the waiting list; a tune for a feed that is OFF is refused the attach, ends NO_LOCK for
its requester, and leaves the path PARKED (R18, R20). A path that attaches starts its tune at once, or behind the latest
tune start of the feed at the tune spacing (R21). How the list is served: from the head, while the head needs the current
setting and a tap is free; a head that needs another setting stops the service, or changes the setting where no path is
attached (R22). A path that leaves the list as its head has the list served (R23). The scan at the end of a settle
attaches the first of those that need the setting, as many as taps are free; where none attaches and somebody waits, the
feed changes to the head's setting (R20). -/
def Obligations.FeedTimersEnd : Prop :=
  (∀ (s : State) (f : Fin 6) (e : Stamp), reached s.clock e = true →
    ((s.feed f).state = .setting → (s.feed f).settleEnd = some e →
      exec (.settingSettleEnd f) s = .next ((s.setFeed f { s.feed f with state := .on, settleEnd := none }).scan f)
      ∧ ((s.feed f).waiting = [] →
        exec (.settingSettleEnd f) s = .next (s.setFeed f { s.feed f with state := .on, settleEnd := none })))
    ∧ ((s.feed f).state = .fault → (s.feed f).retryEnd = some e →
      exec (.retryDelayEnd f) s
        = .next (s.setFeed f
            { s.feed f with
              state := .retry, retryEnd := none
              settleEnd := some (s.clock + BitVec.ofNat 32 s.params.feedSettle) }))
    ∧ ((s.feed f).state = .retry → (s.feed f).settleEnd = some e →
      exec (.retrySettleEnd f) s
        = .next ((s.setFeed f
            { s.feed f with state := .on, settleEnd := none, clearEnd := some (s.clock + 60000) }).serve f)
      ∧ ((s.feed f).waiting = [] →
        exec (.retrySettleEnd f) s
          = .next (s.setFeed f
              { s.feed f with state := .on, settleEnd := none, clearEnd := some (s.clock + 60000) })))
    ∧ ((s.feed f).clearEnd = some e →
      exec (.faultCountClear f) s = .next (s.setFeed f { s.feed f with faultCount := 0, clearEnd := none })))
  ∧ ∀ (s : State) (f : Fin 6) (p : Fin 8),
    let x := s.feed f
    let need (q : Fin 8) : Option Setting := (s.path q).tuned.bind fun c => (s.carrier c).bind (·.plan.setting)
    let fits (q : Fin 8) : Prop := need q = none ∨ x.setting = need q
    let changed (q : Fin 8) (w : List (Fin 8)) : State := s.setFeed f
      { x with
        waiting := w, state := .setting, setting := need q
        settleEnd := some (s.clock + BitVec.ofNat 32 s.params.feedSettle) }
    (s.params.settle .terrestrial = s.params.settleTerrestrial ∧ s.params.settle .cable = s.params.settleCable
      ∧ s.params.settle .satellite = s.params.settleSatellite)
    ∧ (x.state = .on → x.waiting = [] → fits p → s.users f < 4 → s.attach p f = s.grant p f)
    ∧ (x.state = .on → x.waiting = [] → ¬ fits p → s.users f = 0 → s.attach p f = changed p [p])
    ∧ (x.state ≠ .off → (x.state ≠ .on ∨ x.waiting ≠ [] ∨ fits p ∧ 4 ≤ s.users f ∨ ¬ fits p ∧ s.users f ≠ 0) →
      s.attach p f = s.setFeed f { x with waiting := x.waiting ++ [p] })
    ∧ (∀ c y q m, s.carrier c = some y → y.plan.feed = f →
      (x.state = .off → s.takeTune p c q m = (s.deliver (unrun p c m q .noLock s.clock)).rests p)
      ∧ (x.state ≠ .off →
        s.takeTune p c q m = (s.setPath p
          { s.path p with state := .waitFeed, tuned := some c, tuneRequester := some q, posted := m }).attach p f))
    ∧ ((∀ l, x.lastTuneStart = some l → reached s.clock (l + BitVec.ofNat 32 s.params.tuneSpacing) = true) →
      s.grant p f = (s.setFeed f { x with lastTuneStart := some s.clock }).setPath p
        { s.path p with
          state := .settling, tap := some f, tuneDue := none, tuneStart := some s.clock
          earliestDetach := some (s.clock + BitVec.ofNat 32 s.params.minOccupancy)
          settleEnd := some (s.clock + BitVec.ofNat 32 (s.params.settle x.kind)) })
    ∧ (∀ l, x.lastTuneStart = some l → reached s.clock (l + BitVec.ofNat 32 s.params.tuneSpacing) = false →
      s.grant p f = (s.setFeed f
          { x with lastTuneStart := some (l + BitVec.ofNat 32 s.params.tuneSpacing) }).setPath p
        { s.path p with
          state := .waitFeed, tap := some f, tuneDue := some (l + BitVec.ofNat 32 s.params.tuneSpacing) })
    ∧ ((x.state ≠ .on ∨ x.waiting = []) → s.serve f = s)
    ∧ (∀ r, x.state = .on → x.waiting = p :: r →
      (fits p → s.users f < 4 → s.serve f = ((s.setFeed f { x with waiting := r }).grant p f).serve f)
      ∧ (fits p → 4 ≤ s.users f → s.serve f = s)
      ∧ (¬ fits p → s.users f ≠ 0 → s.serve f = s)
      ∧ (¬ fits p → s.users f = 0 → s.serve f = changed p x.waiting))
    ∧ (let u := s.setFeed f { x with waiting := x.waiting.filter fun q => decide (q ≠ p) }
      (x.waiting.head? = some p → s.leaveWaiting p f = u.serve f)
      ∧ (x.waiting.head? ≠ some p → s.leaveWaiting p f = u))
    ∧ (x.state = .on → x.waiting.Nodup → (∀ q ∈ x.waiting, (s.path q).tap = none) →
      let attached := (x.waiting.filter fun q => decide (fits q)).take (4 - s.users f)
      let t := s.scan f
      (∀ q ∈ attached, (t.path q).tap = some f)
      ∧ (∀ q, q ∉ attached → t.path q = s.path q)
      ∧ (t.feed f).waiting = x.waiting.filter (fun q => decide (q ∉ attached))
      ∧ (∀ q r, s.users f = 0 → attached = [] → x.waiting = q :: r → t = changed q x.waiting)
      ∧ ((s.users f ≠ 0 ∨ attached ≠ [] ∨ x.waiting = []) → (t.feed f).state = .on ∧ (t.feed f).setting = x.setting))

/-! ## Parameters -/

/-- PARAM_SET stores the clamped and held parameters within their ranges, whatever value it carries, and replies
with the whole set as it then stands. A timing parameter, 1 to 9, is refused OUT_OF_RANGE on its value's field outside its
range, and WRONG_STATE unless the survey is STOPPED and every path is PARKED; so are a prescaler above 255 and a level
window out of order or above 240 refused on their fields, and a number outside 1 to 29 on its own. A new stale limit
re-times every FRESH carrier, in rising order of index: one whose age has reached it is STALE, and is reported AGED. A body
of several items writes them in order, and a refused one nothing, for a value or for the state alike: the fields count on
through the items, and its reply carries the set too (Table 12-3, R93, R94, R102, R185, R186). That a body with a stale
limit re-times once, after all its items, is the model's reading (assumption log 22). -/
def Obligations.ParamSetWritesSet : Prop :=
  ∀ (s : State) (tag lo hi : Byte) (v : Nat), s.takes = true → v = lo.toNat + 256 * hi.toNat →
    let stored (P : Params) : State := ({ s.hunts with params := P } : State).owe 0x90 tag ⟨.ok, P.bytes⟩
    let range (body : List Byte) (n : Nat) : Prop :=
      exec (.paramSet tag body) s = .next (s.hunts.owe 0x90 tag ⟨.outOfRange, byteOf n :: s.params.bytes⟩)
    let timing : List (Byte × Nat × Nat × (Params → Params)) :=
      [(1, 10, 500, fun P => { P with settleTerrestrial := v }), (2, 10, 500, fun P => { P with settleCable := v }),
        (3, 10, 500, fun P => { P with settleSatellite := v }), (4, 50, 1000, fun P => { P with lockTimeout := v }),
        (5, 50, 2000, fun P => { P with minOccupancy := v }), (6, 5, 200, fun P => { P with releaseRecovery := v }),
        (7, 0, 100, fun P => { P with tuneSpacing := v }), (8, 10, 200, fun P => { P with feedSettle := v }),
        (9, 500, 10000, fun P => { P with contentTimeout := v })]
    let windows : List (Byte × (LevelWindow → Params → Params)) :=
      [(27, fun w P => { P with windowTerrestrial := w }), (28, fun w P => { P with windowCable := w }),
        (29, fun w P => { P with windowSatellite := w })]
    let still := s.survey = .stopped ∧ ∀ p, (s.path p).state = .parked
    -- the parameters `P` are written, with a stale limit among them
    let limited (P : Params) : State := ({ s.hunts with params := P } : State).retime.owe 0x90 tag ⟨.ok, P.bytes⟩
    exec (.paramSet tag [10, lo, hi]) s = .next (stored { s.params with smoothing := max 1 (min 16 v) })
    ∧ exec (.paramSet tag [11, lo, hi]) s = .next (stored { s.params with margin := min 300 v })
    ∧ exec (.paramSet tag [12, lo, hi]) s = .next (stored { s.params with winCount := max 1 (min 15 v) })
    ∧ exec (.paramSet tag [13, lo, hi]) s = .next (stored { s.params with holdDown := min 3600 v })
    ∧ exec (.paramSet tag [15, lo, hi]) s = .next (stored { s.params with missLimit := max 1 (min 15 v) })
    ∧ exec (.paramSet tag [16, lo, hi]) s = .next (stored { s.params with recheckWindow := if v = 8 then 8 else 4 })
    ∧ exec (.paramSet tag [17, lo, hi]) s
        = .next (stored
            { s.params with watermark := if 1 ≤ v ∧ v ≤ 31 then v else s.params.watermark })
    ∧ (∀ m : Fin 8, exec (.paramSet tag [byteOf (19 + m.1), lo, hi]) s
        = .next (stored { s.params with requiredMer := s.params.requiredMer.set m.1 (min 400 v) }))
    ∧ (∀ e ∈ timing,
      ((v < e.2.1 ∨ e.2.2.1 < v) → range [e.1, lo, hi] 2)
      ∧ (e.2.1 ≤ v → v ≤ e.2.2.1 →
        (¬ still → exec (.paramSet tag [e.1, lo, hi]) s = .next (s.hunts.owe 0x90 tag ⟨.wrongState, s.params.bytes⟩))
        ∧ (still → exec (.paramSet tag [e.1, lo, hi]) s = .next (stored (e.2.2.2 s.params)))))
    ∧ (v ≤ 255 → exec (.paramSet tag [18, lo, hi]) s = .next (stored { s.params with prescaler := v }))
    ∧ (255 < v → range [18, lo, hi] 2)
    ∧ (∀ n : Byte, (n = 0 ∨ 29 < n.toNat) → range [n, lo, hi] 1)
    ∧ (∀ e ∈ windows, ∀ a b : Byte, let top := a.toNat + 256 * b.toNat
      (240 < v → range [e.1, lo, hi, a, b] 2)
      ∧ (v ≤ 240 → (240 < top ∨ top ≤ v) → range [e.1, lo, hi, a, b] 3)
      ∧ (v < top → top ≤ 240 →
        exec (.paramSet tag [e.1, lo, hi, a, b]) s = .next (stored (e.2 ⟨v, top⟩ s.params))))
    ∧ (let P : Params := { s.params with staleLimit := max 10 (min 3600 v) }
      exec (.paramSet tag [14, lo, hi]) s = .next (limited P)
      ∧ (Store.wf s.carriers = true → ∀ c, ({ s.hunts with params := P } : State).retime.carrier c = (s.carrier c).map fun x =>
          match x.reception.state, x.reception.scoredAt with
          | .fresh, some t =>
            if 1000 * P.staleLimit ≤ (s.clock - t).toNat then
              { x with reception := { x.reception with state := .stale, staleEnd := none } }
            else
              { x with
                reception := { x.reception with staleEnd := some (t + BitVec.ofNat 32 (1000 * P.staleLimit)) } }
          | _, _ => x))
    ∧ (∀ P : Params,
      let written : State := { s.hunts with params := P }
      let retimed (v : State) (c : Nat) : State :=
        match v.carrier c with
        | none => v
        | some x =>
          match x.reception.state, x.reception.scoredAt with
          | .fresh, some t =>
            if 1000 * P.staleLimit ≤ (s.clock - t).toNat then
              let aged : Reception := { x.reception with state := .stale, staleEnd := none }
              (v.setCarrier c { x with reception := aged }).tells c .aged x.reception aged
            else
              v.setCarrier c
                { x with
                  reception := { x.reception with staleEnd := some (t + BitVec.ofNat 32 (1000 * P.staleLimit)) } }
          | _, _ => v
      written.retime = (s.carriers.map (·.1)).foldl retimed written)
    ∧ ∀ l : List ParamItem, l ≠ [] → (∀ i ∈ l, i.carried = true) → (l.flatMap ParamItem.bytes).length ≤ 1024 →
      ((∀ i ∈ l, i.fault = none ∧ i.number ≠ 14) → ((∃ i ∈ l, i.timing = true) → still) →
        exec (.paramSet tag (l.flatMap ParamItem.bytes)) s = .next (stored (l.foldl Params.write s.params)))
      ∧ ((∀ i ∈ l, i.fault = none) → (∃ i ∈ l, i.number = 14) → ((∃ i ∈ l, i.timing = true) → still) →
        exec (.paramSet tag (l.flatMap ParamItem.bytes)) s = .next (limited (l.foldl Params.write s.params)))
      ∧ ((∀ i ∈ l, i.fault = none) → (∃ i ∈ l, i.timing = true) → ¬ still →
        exec (.paramSet tag (l.flatMap ParamItem.bytes)) s
          = .next (s.hunts.owe 0x90 tag ⟨.wrongState, s.params.bytes⟩))
      ∧ ∀ l1 i l2 k, l = l1 ++ i :: l2 → (∀ j ∈ l1, j.fault = none) → i.fault = some k →
        1 + (l1.map ParamItem.fields).sum + k ≤ 255 →
        range (l.flatMap ParamItem.bytes) (1 + (l1.map ParamItem.fields).sum + k)

/-! ## Plan Memory, lists and rechecks -/

/-- LIST_WRITE of a run while the survey is STOPPED writes exactly its entries, blank or full, and leaves every other
entry of Plan Memory as it was; in any other survey state it is refused WRONG_STATE. A first index above 511 is OUT_OF_RANGE
on field 1, and a count of 0 or past entry 511 on field 2; which index of an entry that reply carries, where no entry failed,
is a free value (assumption log 3). The first failing field of the entries, in index order, gives OUT_OF_RANGE with its
number, 4 to 9, and the index of its entry; a carrier is one byte and always in range. The first carrier in index order that
is an unused index gives NOT_FOUND with the index of its entry (R70, R71). -/
def Obligations.ListWriteWritesRun : Prop :=
  (∀ (s : State) (tag : Byte) (first count : Nat) (records : List Byte), s.takes = true → first < 65536 →
    count < 65536 → records.length ≤ 1020 → rawEntries count records ≠ none →
    let refused (n : Byte) : Prop := ∃ i0 i1 : Byte,
      exec (.listWrite tag (le16 first ++ le16 count ++ records)) s
        = .next (({ s.hunts with freeCount := s.freeCount + 1 } : State).owe 0x98 tag ⟨.outOfRange, [n, i0, i1]⟩)
    (511 < first → refused 1)
    ∧ (first ≤ 511 → (count = 0 ∨ 512 < first + count) → refused 2))
  ∧ (∀ (s : State) (tag c k w d e r0 r1 t : Byte) (first rest : Nat) (l : List (Option SweepEntry)) (records : List Byte),
    s.takes = true → (∀ y ∈ l, ∀ x, y = some x → x.fits = true) → rawEntries rest records ≠ none →
    let count := l.length + 1 + rest
    let body := le16 first ++ le16 count ++ (l.flatMap entryBytes ++ [1, c, k, w, d, e, r0, r1, t] ++ records)
    first + count ≤ 512 → body.length ≤ 1024 →
    let range (n : Byte) : Prop :=
      exec (.listWrite tag body) s = .next (s.hunts.owe 0x98 tag ⟨.outOfRange, n :: le16 (first + l.length)⟩)
    let window := w = 4 ∨ w = 8
    (2 < k.toNat → range 4)
    ∧ (k.toNat ≤ 2 →
      (¬ window → range 5)
      ∧ (window → 3 < d.toNat → range 6)
      ∧ (window → d.toNat ≤ 3 → 1 < e.toNat → range 7)
      ∧ (window → d.toNat ≤ 3 → e.toNat ≤ 1 → 4095 < r0.toNat + 256 * r1.toNat → range 8)
      ∧ (window → d.toNat ≤ 3 → e.toNat ≤ 1 → r0.toNat + 256 * r1.toNat ≤ 4095 → 1 < t.toNat → range 9)))
  ∧ (∀ (s : State) (tag : Byte) (first : Nat) (l1 l2 : List (Option SweepEntry)) (e : SweepEntry), s.takes = true →
    let l := l1 ++ some e :: l2
    first + l.length ≤ 512 → (runBody first l).length ≤ 1024 → (∀ y ∈ l, ∀ x, y = some x → x.fits = true) →
    (∀ y ∈ l1, ∀ x, y = some x → s.carrier x.carrier ≠ none) → s.carrier e.carrier = none →
    exec (.listWrite tag (runBody first l)) s
      = .next (s.hunts.owe 0x98 tag ⟨.notFound, le16 (first + l1.length)⟩))
  ∧ ∀ (s : State) (tag : Byte) (first : Nat) (l : List (Option SweepEntry)), s.takes = true →
    s.runOk first l = true →
    (s.survey = .stopped → ∃ m,
      exec (.listWrite tag (runBody first l)) s
        = .next (({ s.hunts with planMemory := m } : State).owe 0x98 tag ⟨.ok, []⟩)
      ∧ ∀ k, Store.find m k
          = if first ≤ k ∧ k < first + l.length then l.getD (k - first) none else Store.find s.planMemory k)
    ∧ (s.survey ≠ .stopped →
      exec (.listWrite tag (runBody first l)) s = .next (s.hunts.owe 0x98 tag ⟨.wrongState, []⟩))

/-- LIST_DEFINE replaces the descriptor and sets the list record IDLE at its first entry, while the survey is STOPPED;
in any other survey state it is refused WRONG_STATE. The first of its fields that is out of its range, of which a length that
takes the list past entry 511 is one, gives OUT_OF_RANGE with its number; a pass count is one byte and always in range
(R72). -/
def Obligations.ListDefineReplacesList : Prop :=
  (∀ (s : State) (tag b0 f0 f1 n0 n1 passes r : Byte), s.takes = true →
    let first := f0.toNat + 256 * f1.toNat
    let length := n0.toNat + 256 * n1.toNat
    let range (n : Byte) : Prop :=
      exec (.listDefine tag [b0, f0, f1, n0, n1, passes, r]) s = .next (s.hunts.owe 0x99 tag ⟨.outOfRange, [n]⟩)
    (8 ≤ b0.toNat → range 1)
    ∧ (b0.toNat < 8 → 511 < first → range 2)
    ∧ (b0.toNat < 8 → first ≤ 511 → (length = 0 ∨ 512 < first + length) → range 3)
    ∧ (b0.toNat < 8 → first ≤ 511 → 1 ≤ length → first + length ≤ 512 → 1 < r.toNat → range 5))
  ∧ ∀ (s : State) (tag : Byte) (n : Fin 8) (first length passes : Nat) (rechecks : Bool), s.takes = true →
    1 ≤ length → first + length ≤ 512 → first ≤ 511 → passes ≤ 255 →
    (s.survey = .stopped →
      exec (.listDefine tag (byteOf n.1 :: le16 first ++ le16 length ++ [byteOf passes, flagByte rechecks])) s
        = .next ((s.hunts.setSweep n
            { descriptor := some ⟨first, length, passes, rechecks⟩
              state := .idle, position := first, pass := 1, rest := 0, allSkipped := false, stage := .notBegun
              seek := none, loan := none, resume := none, doneReason := none, current := none, restBegan := none
              direct := false }).owe 0x99 tag ⟨.ok, []⟩))
    ∧ (s.survey ≠ .stopped →
      exec (.listDefine tag (byteOf n.1 :: le16 first ++ le16 length ++ [byteOf passes, flagByte rechecks])) s
        = .next (s.hunts.owe 0x99 tag ⟨.wrongState, []⟩))

/-- LIST_SEEK by the list's state: at once where the list is about to begin an entry, pending while it rests or an
entry is begun or in flight, and a DONE list begins again at the position; an IDLE list is left alone. A position
that the list does not name, or a list without a descriptor, is NOT_FOUND, and a list above 7 or a position above 511
OUT_OF_RANGE (R82). That a list suspended with its entry in flight is moved at once is the model's reading (assumption log
24). -/
def Obligations.ListSeekMovesPosition : Prop :=
  (∀ (s : State) (tag b0 p0 p1 : Byte), s.takes = true →
    let range (n : Byte) : Prop :=
      exec (.listSeek tag [b0, p0, p1]) s = .next (s.hunts.owe 0x9A tag ⟨.outOfRange, [n]⟩)
    (8 ≤ b0.toNat → range 1)
    ∧ (b0.toNat < 8 → 511 < p0.toNat + 256 * p1.toNat → range 2))
  ∧
  (∀ (s : State) (tag : Byte) (n : Fin 8) (p : Nat), s.takes = true → p ≤ 511 → (s.sweep n).descriptor = none →
    exec (.listSeek tag (byteOf n.1 :: le16 p)) s = .next (s.hunts.owe 0x9A tag ⟨.notFound, []⟩))
  ∧ ∀ (s : State) (tag : Byte) (n : Fin 8) (p : Nat) (d : Descriptor), s.takes = true → p ≤ 511 →
    (s.sweep n).descriptor = some d →
    let l := s.sweep n
    let driven := (s.path n).mode = .list ∧ (s.path n).pendingMode = none
    let sought (x : SweepList) : Prop :=
      exec (.listSeek tag (byteOf n.1 :: le16 p)) s
        = .next ((s.hunts.setSweep n x).runEngine.owe 0x9A tag ⟨.ok, []⟩)
    (¬ (d.first ≤ p ∧ p < d.first + d.length) →
      exec (.listSeek tag (byteOf n.1 :: le16 p)) s = .next (s.hunts.owe 0x9A tag ⟨.notFound, []⟩))
    ∧ (d.first ≤ p → p < d.first + d.length →
      (l.state = .idle → sought l)
      ∧ (l.state = .resting → sought { l with seek := some p })
      ∧ (l.state = .running → l.stage = .notBegun → sought { l with position := p, seek := none })
      ∧ (l.state = .running → l.stage ≠ .notBegun → sought { l with seek := some p })
      ∧ (l.state = .suspended → l.resume = some .resting → sought { l with seek := some p })
      ∧ (l.state = .suspended → l.resume ≠ some .resting → sought { l with position := p, seek := none })
      ∧ (l.state = .done → s.survey = .running → driven →
        sought
          { l with
            position := p, pass := 1, allSkipped := true, doneReason := none, seek := none, state := .running
            resume := none })
      ∧ (l.state = .done → (s.survey ≠ .running ∨ ¬ driven) →
        sought
          { l with
            position := p, pass := 1, allSkipped := true, doneReason := none, seek := none, state := .suspended
            resume := some .running }))

/-- RECHECK: a class that is neither QUALITY nor CONTENT is OUT_OF_RANGE on field 2, an urgency that is neither URGENT nor
ROUTINE on field 3; an unused index is NOT_FOUND, a disabled carrier WRONG_STATE. A recheck of the carrier and class that is
on a path answers it. A queued one answers it too, but that an URGENT request upgrades a ROUTINE entry, which moves to the
end of the URGENT group with the request's reason and arrival. Else it takes its place behind the entries of its urgency
and is offered to the free paths. In a full queue a ROUTINE request, or an URGENT one where every entry is URGENT, is
NO_ROOM; any other displaces the last entry, with RECHECK_DROPPED (R84, R85, R86).
How the queue is handed out (R88, R89, R90, R91): which paths are free, which of them an entry goes to, what its path is
sent, and what the end of a loan leaves. A TUNE put off until the path reports RECOVERING or PARKED is issued then, with the
measurement of the loan, or the loan ends without a result where the index has become unused (R76, R90). What a
request of a block does is said beside RECHECK's: one for a carrier that is unused or disabled finds nothing, and one that
the queue drops is told by RECHECK_DROPPED (R12, R84, R85). Two clauses are the model's choice: that the lowest-numbered
path acts first, and puts off come before the queue (assumption log 27), and that a list whose rest is over is not offered
before its entry also while its REST_END is still to come (log 16). -/
def Obligations.RecheckTakesItsPlace : Prop :=
  -- a recheck request of a block
  (∀ (s : State) (c : Nat) (k : MeasClass) (u : Urgency) (why : RecheckReason),
    let e : Recheck := ⟨c, k, u, why, s.clock⟩
    let urgent (y : Recheck) : Bool := decide (y.urgency = .urgent)
    let same (y : Recheck) : Bool := decide (y.carrier = c ∧ y.cls = k)
    let queued (q : List Recheck) : State := { s with recheckQueue := q }
    let gives (t : State) : Prop := s.requestRecheck c k u why = t
    let told (y : Recheck) (t : State) : State :=
      t.post .recheckDropped y.carrier [byteOf y.cls.code, byteOf y.urgency.code, byteOf y.reason.code]
    (s.recheckOnPath c k = true ↔ ∃ p l, (s.sweep p).loan = some l ∧ l.entry.carrier = c ∧ l.entry.cls = k)
    ∧ ((∀ x, s.carrier c = some x → x.plan.enabled = false) → gives s)
    ∧ (s.recheckOnPath c k = true → gives s)
    ∧ ∀ x, s.carrier c = some x → x.plan.enabled = true → s.recheckOnPath c k = false →
      (∀ y, s.recheckQueue.find? same = some y →
        ((y.urgency = .urgent ∨ u = .routine) → gives s)
        ∧ (y.urgency = .routine → u = .urgent →
          let q := s.recheckQueue.filter fun z => !same z
          gives (queued (q.takeWhile urgent ++ e :: q.dropWhile urgent))))
      ∧ (s.recheckQueue.find? same = none →
        (s.recheckQueue.length < 24 → u = .urgent →
          gives (queued (s.recheckQueue.takeWhile urgent ++ e :: s.recheckQueue.dropWhile urgent)).runEngine)
        ∧ (s.recheckQueue.length < 24 → u = .routine → gives (queued (s.recheckQueue ++ [e])).runEngine)
        ∧ (24 ≤ s.recheckQueue.length →
          (u = .routine → gives (told e s).runEngine)
          ∧ ((∀ y ∈ s.recheckQueue, y.urgency = .urgent) → gives (told e s).runEngine)
          ∧ ∀ y, s.recheckQueue.getLast? = some y → y.urgency = .routine → u = .urgent →
            let q := s.recheckQueue.dropLast
            gives (told y (queued (q.takeWhile urgent ++ e :: q.dropWhile urgent))).runEngine)))
  ∧
  (∀ (s : State) (tag c k u : Byte), s.takes = true →
    let range (n : Byte) : Prop := exec (.recheck tag [c, k, u]) s = .next (s.hunts.owe 0xA8 tag ⟨.outOfRange, [n]⟩)
    ((k = 1 ∨ 2 < k.toNat) → range 2)
    ∧ ((k = 0 ∨ k = 2) → 1 < u.toNat → range 3))
  ∧ (∀ (s : State) (tag c : Byte) (k : MeasClass) (u : Urgency), s.takes = true → k ≠ .level →
    let e : Recheck := ⟨c.toNat, k, u, .probe, s.clock⟩
    let urgent (y : Recheck) : Bool := decide (y.urgency = .urgent)
    let same (y : Recheck) : Bool := decide (y.carrier = c.toNat ∧ y.cls = k)
    let queued (q : List Recheck) : State := { s.hunts with recheckQueue := q }
    let out (t : State) (code : ResultCode) : Prop :=
      exec (.recheck tag [c, byteOf k.code, byteOf u.code]) s = .next (t.owe 0xA8 tag ⟨code, []⟩)
    (s.carrier c.toNat = none → out s.hunts .notFound)
    ∧ (∀ x, s.carrier c.toNat = some x → x.plan.enabled = false → out s.hunts .wrongState)
    ∧ (∀ x, s.carrier c.toNat = some x → x.plan.enabled = true →
      (s.recheckOnPath c.toNat k = true → out s.hunts .ok)
      ∧ (s.recheckOnPath c.toNat k = false →
        (∀ y, s.recheckQueue.find? same = some y →
          ((y.urgency = .urgent ∨ u = .routine) → out s.hunts .ok)
          ∧ (y.urgency = .routine → u = .urgent →
            let q := s.recheckQueue.filter fun z => !same z
            out (queued (q.takeWhile urgent ++ e :: q.dropWhile urgent)) .ok))
        ∧ (s.recheckQueue.find? same = none →
          (s.recheckQueue.length < 24 → u = .urgent →
            out (queued (s.recheckQueue.takeWhile urgent ++ e :: s.recheckQueue.dropWhile urgent)).runEngine .ok)
          ∧ (s.recheckQueue.length < 24 → u = .routine → out (queued (s.recheckQueue ++ [e])).runEngine .ok)
          ∧ (24 ≤ s.recheckQueue.length →
            (u = .routine → out s.hunts .noRoom)
            ∧ ((∀ y ∈ s.recheckQueue, y.urgency = .urgent) → out s.hunts .noRoom)
            ∧ ∀ y, s.recheckQueue.getLast? = some y → y.urgency = .routine → u = .urgent →
              let q := s.recheckQueue.dropLast
              out (((queued (q.takeWhile urgent ++ e :: q.dropWhile urgent)).post .recheckDropped y.carrier
                [byteOf y.cls.code, byteOf y.urgency.code, byteOf y.reason.code]).runEngine) .ok)))))
  ∧ ∀ (s : State) (p : Fin 8) (e : Recheck) (rest : List Recheck),
    let l := s.sweep p
    let x := s.path p
    let free (q : Fin 8) : Prop :=
      (s.path q).mode = .list ∧ (s.path q).pendingMode = none
        ∧ (∃ d, (s.sweep q).descriptor = some d ∧ d.rechecks = true) ∧ s.survey = .running ∧ (s.sweep q).loan = none
        ∧ ((s.sweep q).state = .done ∨ (s.sweep q).direct = false
          ∧ ((s.sweep q).state = .resting ∨ (s.sweep q).state = .running ∧ (s.sweep q).stage = .notBegun))
    let on (q : Fin 8) : Prop := (s.path q).state = .locked ∧ (s.path q).tuned = some e.carrier
    let m : Meas := ⟨e.cls, s.params.recheckWindow, 1, true, .recheck⟩
    let lent (issued : Bool) : State :=
      ({ s with recheckQueue := rest } : State).setSweep p { l with loan := some ⟨e, m, issued⟩ }
    (s.free p = true ↔ free p)
    ∧ (s.pathFor e = some p ↔
      (free p ∧ on p ∧ ∀ q, q < p → ¬ (free q ∧ on q))
        ∨ (free p ∧ (∀ q, ¬ (free q ∧ on q)) ∧ ∀ q, q < p → ¬ free q))
    ∧ (s.recheckQueue = e :: rest → (∀ q, s.entryDue q = false) → (∀ q, s.loanDue q = false) → s.pathFor e = some p →
      ((x.state = .parked ∨ x.state = .recovering ∧ x.heldTune = none) →
        s.engineAct = some ((lent true).tune p e.carrier .recheck (some m)))
      ∧ (on p → s.engineAct = some ((lent true).takeMeasure p m))
      ∧ (x.state = .locked → x.tuned ≠ some e.carrier → s.engineAct = some ((lent false).leaves p))
      ∧ (x.state = .releasing → s.engineAct = some (lent false)))
    -- the TUNE of the recheck lent to the path is due
    ∧ (let due (q : Fin 8) : Prop :=
        (∃ k, (s.sweep q).loan = some k ∧ k.issued = false) ∧ (s.path q).mode = .list ∧ (s.path q).pendingMode = none
          ∧ ((s.path q).state = .parked ∨ (s.path q).state = .recovering ∧ (s.path q).heldTune = none)
      (s.loanDue p = true ↔ due p)
      ∧ ∀ k, l.loan = some k → (∀ q, s.entryDue q = false) → due p → (∀ q, q < p → ¬ due q) →
        (s.carrier k.entry.carrier ≠ none →
          s.engineAct = some ((s.setSweep p { l with loan := some { k with issued := true } }).tune p k.entry.carrier
            .recheck (some k.meas)))
        ∧ (s.carrier k.entry.carrier = none → s.engineAct = some (s.endLoan p)))
    ∧ s.endLoan p = s.setSweep p
        { l with loan := none, direct := decide (l.state = .running ∨ l.state = .resting ∧ l.rest = 0) }
    ∧ (∀ r : Result, r.requester = .recheck → l.loan ≠ none → s.toRequester { r with path := p } = s.endLoan p)

/-- TICK_BOUNDARY, once the tick in progress has lasted its length: the next tick lasts (prescaler + 1) × 10 ms, and
the rest counter of each RESTING list whose rest began before the boundary falls by one. Nothing else changes (R80,
R81). Two clauses are the model's choice: that before the boundary nothing changes at all (assumption log 7), and that a
rest which counts again from a return out of SUSPENDED does not count a boundary at that return's clock reading (log 46). -/
def Obligations.TickBoundaryCounts : Prop :=
  ∀ s : State,
    (reached s.clock s.tickEnd = true → ∃ ls,
      exec .tickBoundary s
        = .next { s with
            lists := ls, tickEnd := s.tickEnd + BitVec.ofNat 32 ((s.params.prescaler + 1) * 10) }
      ∧ ∀ n, tabGet ls n =
          if (s.sweep n).state = .resting ∧ 0 < (s.sweep n).rest
            ∧ ∃ b, (s.sweep n).restBegan = some b ∧ b ≠ s.tickEnd ∧ reached s.tickEnd b = true then
            { s.sweep n with rest := (s.sweep n).rest - 1 }
          else s.sweep n)
    ∧ (reached s.clock s.tickEnd = false → exec .tickBoundary s = .next s)

/-- REST_END on a list whose rest has run out: the position takes the pending seek or rises by one; at the end of the
pass the list begins the next pass at its first entry, or is DONE, with LIST_DONE posted and its path released unless a
loan is on it, after its last pass or a pass in which every entry skipped. The position of a DONE list is a free value
between the first entry and one past the last (assumption log 5). The Sweep Engine then acts (R79).
What the Sweep Engine does with an entry: a list about to begin one, whose path takes no recheck, reads it; a blank one
and one whose carrier is unused or disabled are skipped, with no rest or their own; else the path is sent what Table 6-4
gives, and the entry is in flight or begun. The TUNE of an entry that is begun and put off is issued once the path reports
RECOVERING or PARKED, or the entry is skipped where its carrier's index has become unused by then; a path in RECOVERING keeps
a TUNE as its held tune. A result other than ABORTED completes it: LIST_MARK is posted where its note
flag asks, and its rest begins; an ABORTED one leaves it to run again (R76, R77, R78). Two clauses are the model's choice:
that the lowest-numbered list acts first (assumption log 27), and that a blank entry, whose rest R77 ends at once, leaves
the list RESTING at a counter of 0 until a REST_END of its own (log 16). -/
def Obligations.RestEndAdvances : Prop :=
  (∀ (s : State) (n : Fin 8) (d : Descriptor),
    (s.sweep n).state = .resting → (s.sweep n).rest = 0 → (s.sweep n).descriptor = some d →
    let l := s.sweep n
    let next := l.seek.getD (l.position + 1)
    (next ≠ d.first + d.length →
      exec (.restEnd n) s
        = .next (s.setSweep n
            { l with position := next, seek := none, state := .running, restBegan := none }).runEngine)
    ∧ (next = d.first + d.length → l.allSkipped = false → (d.passes = 0 ∨ l.pass ≠ d.passes) →
      exec (.restEnd n) s
        = .next (s.setSweep n
            { l with
              position := d.first, seek := none, pass := min 255 (l.pass + 1), allSkipped := true, state := .running
              restBegan := none }).runEngine)
    ∧ (next = d.first + d.length → (l.allSkipped = true ∨ d.passes ≠ 0 ∧ l.pass = d.passes) →
      ∃ q, d.first ≤ q ∧ q ≤ d.first + d.length
        ∧ let done := (({ s with freeCount := s.freeCount + 1 } : State).setSweep n
              { l with
                position := q, seek := none, state := .done, rest := 0, restBegan := none, direct := false
                doneReason := some (if l.allSkipped = true then .empty else .complete) }).post .listDone n.1
                  [if l.allSkipped = true then 1 else 0, byteOf l.pass]
          exec (.restEnd n) s = .next (if l.loan = none then done.takeRelease n else done).runEngine))
  ∧ ∀ (s : State) (n : Fin 8),
    let l := s.sweep n
    let x := s.path n
    let about (m : Fin 8) : Prop :=
      (s.sweep m).state = .running ∧ (s.sweep m).stage = .notBegun ∧ (s.sweep m).loan = none
        ∧ (s.path m).mode = .list ∧ (s.path m).pendingMode = none
    -- the TUNE of an entry begun is due
    let due (m : Fin 8) : Prop :=
      (s.sweep m).state = .running ∧ (s.sweep m).stage = .begun ∧ (s.path m).mode = .list
        ∧ (s.path m).pendingMode = none
        ∧ ((s.path m).state = .parked ∨ (s.path m).state = .recovering ∧ (s.path m).heldTune = none)
    (s.engineAct = none → s.runEngine = s)
    ∧ (s.entryDue n = true ↔ due n)
    ∧ (∀ e, l.current = some e → due n → (∀ m, m < n → ¬ due m) →
      (s.carrier e.entry.carrier ≠ none →
        s.engineAct = some ((s.setSweep n { l with stage := .inFlight }).tune n e.entry.carrier .list
          (some ⟨e.entry.cls, e.entry.window, e.entry.leadIn, e.entry.release, .list⟩)))
      ∧ (s.carrier e.entry.carrier = none → s.engineAct = some (s.setSweep n (s.listRests e.entry.rest l))))
    ∧ (∀ c q m,
      (x.state = .recovering → s.tune n c q m = s.setPath n { x with heldTune := some ⟨c, q, m⟩ })
      ∧ (x.state ≠ .recovering → s.tune n c q m = s.takeTune n c q m))
    ∧ (∀ m, x.state = .locked → s.takeMeasure n m = s.setPath n
      { x with
        state := .measuring, posted := none, held := none
        window := some
          { meas := m, lead := m.leadIn, leadDone := 0, counted := 0, locked := 0, levelSum := 0, merSum := 0
            erroredSum := 0, observation := none
            gathering := if m.cls = .content ∧ m.leadIn = 0 then some ⟨none, []⟩ else none, cut := false }
        blockEnd := some (s.clock + 50)
        contentEnd := if m.cls = .content ∧ m.leadIn = 0
          then some (s.clock + BitVec.ofNat 32 s.params.contentTimeout) else none })
    ∧ (∀ t k, s.engineAct = some t → s.runEngine = t.runEngineFor 159 ∧ s.runEngineFor (k + 1) = t.runEngineFor k)
    ∧ (∀ k, s.runEngineFor 0 = s ∧ (s.engineAct = none → s.runEngineFor k = s))
    ∧ ((∀ m, s.entryDue m = false) → (∀ m, s.loanDue m = false) →
      (∀ e, s.recheckQueue.head? = some e → s.pathFor e = none) → about n → (∀ m, m < n → ¬ about m) →
      s.engineAct = some (s.beginEntry n))
    ∧ (Store.find s.planMemory l.position = none → s.beginEntry n = s.setSweep n (s.listRests 0 l))
    ∧ (∀ e, Store.find s.planMemory l.position = some e →
      let m : Meas := ⟨e.cls, e.window, e.leadIn, e.release, .list⟩
      let begun (g : EntryStage) : State :=
        s.setSweep n { l with stage := g, current := some ⟨l.position, e⟩, direct := false }
      ((∀ c, s.carrier e.carrier = some c → c.plan.enabled = false) →
        s.beginEntry n = s.setSweep n (s.listRests e.rest l))
      ∧ ∀ c, s.carrier e.carrier = some c → c.plan.enabled = true →
        ((x.state = .parked ∨ x.state = .recovering ∧ x.heldTune = none) →
          s.beginEntry n = (begun .inFlight).tune n e.carrier .list (some m))
        ∧ (x.state = .locked → x.tuned = some e.carrier → s.beginEntry n = (begun .inFlight).takeMeasure n m)
        ∧ (x.state = .locked → x.tuned ≠ some e.carrier → s.beginEntry n = (begun .begun).leaves n)
        ∧ (x.state = .releasing → s.beginEntry n = begun .begun))
    ∧ ∀ e o, l.stage = .inFlight → l.current = some e →
      (o = .aborted → s.entryResult n o = s.setSweep n { l with stage := .notBegun, current := none })
      ∧ (o ≠ .aborted →
        s.entryResult n o
          = (if e.entry.note = true then
              s.post .listMark e.index [byteOf n.1, byteOf e.entry.carrier, byteOf l.pass, byteOf o.code]
            else s).setSweep n { s.listRests e.entry.rest l with allSkipped := false })

/-! ## Receive paths -/

/-- PATH_MODE: the mode the path has already changes nothing; a PARKED path takes the mode at once, and its list is
suspended or returns; a path that is not PARKED takes it as its pending mode, its list is suspended if it was in LIST
mode, and it takes RELEASE; a path with a pending mode refuses BUSY, and a path above 7 or a mode that is none of the three
is OUT_OF_RANGE (R32, R33, R75). What the list becomes: a RUNNING or RESTING one that its path leaves is SUSPENDED with its
state as its resume state, and an entry begun and not issued is unbegun; one whose path joins it while the survey is RUNNING
returns to its resume state, a rest counting again from now (R75, R81); any other stays. That a loan whose TUNE has not been
issued ends as the path leaves is the model's reading (assumption log 15), and that a rest which returns here counts no tick
boundary at this very clock reading its choice (log 46). -/
def Obligations.PathModeChanges : Prop :=
  (∀ (s : State) (tag b w : Byte), s.takes = true →
    let range (n : Byte) : Prop := exec (.pathMode tag [b, w]) s = .next (s.hunts.owe 0xA0 tag ⟨.outOfRange, [n]⟩)
    (8 ≤ b.toNat → range 1) ∧ (b.toNat < 8 → 2 < w.toNat → range 2))
  ∧ ∀ (s : State) (tag : Byte) (p : Fin 8) (m : PathMode), s.takes = true →
    let x := s.path p
    (x.pendingMode ≠ none →
      exec (.pathMode tag [byteOf p.1, byteOf m.code]) s = .next (s.hunts.owe 0xA0 tag ⟨.busy, []⟩))
    ∧ (x.pendingMode = none → x.mode = m →
      exec (.pathMode tag [byteOf p.1, byteOf m.code]) s = .next (s.hunts.owe 0xA0 tag ⟨.ok, []⟩))
    ∧ (x.pendingMode = none → x.mode ≠ m → x.state = .parked →
      exec (.pathMode tag [byteOf p.1, byteOf m.code]) s
        = .next ((if m = .list then (s.hunts.setPath p { x with mode := m }).listJoined p
            else (s.hunts.setPath p { x with mode := m }).listLeft p).runEngine.owe 0xA0 tag ⟨.ok, []⟩))
    ∧ (x.pendingMode = none → x.mode ≠ m → x.state ≠ .parked →
      exec (.pathMode tag [byteOf p.1, byteOf m.code]) s
        = .next (((if x.mode = .list then (s.hunts.setPath p { x with pendingMode := some m }).listLeft p
            else s.hunts.setPath p { x with pendingMode := some m }).takeRelease p).runEngine.owe 0xA0 tag
              ⟨.ok, []⟩))

/-- PROBE_TUNE: a path above 7 is OUT_OF_RANGE, and an unused carrier index, before any test of the path, NOT_FOUND. Of a
used carrier: a path that is not MANUAL refuses WRONG_STATE, one that is tuned BUSY; a RECOVERING
path keeps it as its held tune; a PARKED path on a feed that is ON under the carrier's setting, with a tap free and
nobody waiting, attaches, and its tune starts at once or waits for the tune spacing; on a feed that is ON under another
setting, with nobody attached or waiting, it waits alone and the feed changes its setting; a feed that is not ON, that
somebody waits for, that has no tap free or that has paths attached under another setting refuses FEED_BUSY (R18, R19,
R20, R21, R34, R35, R36, R51). -/
def Obligations.ProbeTuneStartsTune : Prop :=
  (∀ (s : State) (tag b c : Byte), s.takes = true →
    let refused (a : Answer) : Prop := exec (.probeTune tag [b, c]) s = .next (s.hunts.owe 0xA1 tag a)
    (8 ≤ b.toNat → refused ⟨.outOfRange, [1]⟩)
    ∧ (b.toNat < 8 → s.carrier c.toNat = none → refused ⟨.notFound, []⟩))
  ∧ ∀ (s : State) (tag c : Byte) (p : Fin 8) (y : Carrier), s.takes = true → s.carrier c.toNat = some y →
    let x := s.path p
    let f := y.plan.feed
    let out (t : State) (code : ResultCode) : Prop :=
      exec (.probeTune tag [byteOf p.1, c]) s = .next (t.owe 0xA1 tag ⟨code, []⟩)
    ((x.mode ≠ .manual ∨ x.pendingMode ≠ none) → out s.hunts .wrongState)
    ∧ (x.mode = .manual → x.pendingMode = none →
      (x.state ≠ .parked → (x.state = .recovering → x.heldTune ≠ none) → out s.hunts .busy)
      ∧ (x.state = .recovering → x.heldTune = none →
        out (s.hunts.setPath p { x with heldTune := some ⟨c.toNat, .probe, none⟩ }) .ok)
      ∧ (x.state = .parked →
        ((s.feed f).state ≠ .on ∨ (s.feed f).waiting ≠ [] ∨ 4 ≤ s.users f
          ∨ s.users f ≠ 0 ∧ y.plan.setting ≠ none ∧ (s.feed f).setting ≠ y.plan.setting) → out s.hunts .feedBusy)
      ∧ (x.state = .parked → (s.feed f).state = .on → (s.feed f).waiting = [] → s.users f = 0 →
        y.plan.setting ≠ none → (s.feed f).setting ≠ y.plan.setting →
        out ((s.hunts.setFeed f
            { s.feed f with
              state := .setting, setting := y.plan.setting, waiting := [p]
              settleEnd := some (s.clock + BitVec.ofNat 32 s.params.feedSettle) }).setPath p
          { x with state := .waitFeed, tuned := some c.toNat, tuneRequester := some .probe, posted := none }) .ok)
      ∧ (x.state = .parked → (s.feed f).state = .on → (s.feed f).waiting = [] → s.users f < 4 →
        (y.plan.setting = none ∨ (s.feed f).setting = y.plan.setting) →
        ((∀ l, (s.feed f).lastTuneStart = some l → reached s.clock (l + BitVec.ofNat 32 s.params.tuneSpacing) = true) →
          out ((s.hunts.setFeed f { s.feed f with lastTuneStart := some s.clock }).setPath p
            { x with
              state := .settling, tuned := some c.toNat, tuneRequester := some .probe, posted := none, tap := some f
              tuneDue := none, tuneStart := some s.clock
              earliestDetach := some (s.clock + BitVec.ofNat 32 s.params.minOccupancy)
              settleEnd := some (s.clock + BitVec.ofNat 32 (s.params.settle (s.feed f).kind)) }) .ok)
        ∧ ∀ l, (s.feed f).lastTuneStart = some l →
          reached s.clock (l + BitVec.ofNat 32 s.params.tuneSpacing) = false →
          out ((s.hunts.setFeed f
              { s.feed f with lastTuneStart := some (l + BitVec.ofNat 32 s.params.tuneSpacing) }).setPath p
            { x with
              state := .waitFeed, tuned := some c.toNat, tuneRequester := some .probe, posted := none, tap := some f
              tuneDue := some (l + BitVec.ofNat 32 s.params.tuneSpacing) }) .ok))

/-- PROBE_MEASURE on a MANUAL path by its state: posted while the path tunes, started as a window where the path is
LOCKED, held behind a running window that stays on the carrier, with the half-point cut where R41 gives it, and
refused NOT_TUNED or BUSY elsewhere. A path that is not MANUAL, or has a pending mode, refuses WRONG_STATE, and the first
field out of its range is OUT_OF_RANGE with its number, a window other than 4 or 8 for every class (R39, R40, R41, R52). -/
def Obligations.ProbeMeasureTaken : Prop :=
  (∀ (s : State) (tag b k w d r : Byte), s.takes = true →
    let range (n : Byte) : Prop :=
      exec (.probeMeasure tag [b, k, w, d, r]) s = .next (s.hunts.owe 0xA2 tag ⟨.outOfRange, [n]⟩)
    (8 ≤ b.toNat → range 1)
    ∧ (b.toNat < 8 → 2 < k.toNat → range 2)
    ∧ (b.toNat < 8 → k.toNat ≤ 2 → w ≠ 4 → w ≠ 8 → range 3)
    ∧ (b.toNat < 8 → k.toNat ≤ 2 → (w = 4 ∨ w = 8) → 3 < d.toNat → range 4)
    ∧ (b.toNat < 8 → k.toNat ≤ 2 → (w = 4 ∨ w = 8) → d.toNat ≤ 3 → 1 < r.toNat → range 5))
  ∧ (∀ (s : State) (tag : Byte) (p : Fin 8) (m : Meas), s.takes = true → (m.window = 4 ∨ m.window = 8) →
    m.leadIn ≤ 3 → ((s.path p).mode ≠ .manual ∨ (s.path p).pendingMode ≠ none) →
    exec (.probeMeasure tag [byteOf p.1, byteOf m.cls.code, byteOf m.window, byteOf m.leadIn, flagByte m.release]) s
      = .next (s.hunts.owe 0xA2 tag ⟨.wrongState, []⟩))
  ∧ ∀ (s : State) (tag : Byte) (p : Fin 8) (m : Meas), s.takes = true →
    (m.window = 4 ∨ m.window = 8) → m.leadIn ≤ 3 → m.requester = .probe →
    (s.path p).mode = .manual → (s.path p).pendingMode = none →
    let x := s.path p
    let out (t : State) (code : ResultCode) : Prop :=
      exec (.probeMeasure tag [byteOf p.1, byteOf m.cls.code, byteOf m.window, byteOf m.leadIn, flagByte m.release]) s
        = .next (t.owe 0xA2 tag ⟨code, []⟩)
    ((x.state = .parked ∨ x.state = .recovering ∨ x.state = .releasing) → out s.hunts .notTuned)
    ∧ ((x.state = .waitFeed ∨ x.state = .settling ∨ x.state = .locking) →
      (x.posted = none → out (s.hunts.setPath p { x with posted := some m }) .ok)
      ∧ (x.posted ≠ none → out s.hunts .busy))
    ∧ (x.state = .locked →
      out (s.hunts.setPath p
        { x with
          state := .measuring, posted := none, held := none
          window := some
            { meas := m, lead := m.leadIn, leadDone := 0, counted := 0, locked := 0, levelSum := 0, merSum := 0
              erroredSum := 0, observation := none
              gathering := if m.cls = .content ∧ m.leadIn = 0 then some ⟨none, []⟩ else none, cut := false }
          blockEnd := some (s.clock + 50)
          contentEnd := if m.cls = .content ∧ m.leadIn = 0
            then some (s.clock + BitVec.ofNat 32 s.params.contentTimeout) else none }) .ok)
    ∧ (∀ w, x.state = .measuring → x.window = some w →
      (w.meas.release = true → out s.hunts .notTuned)
      ∧ (w.meas.release = false → x.held ≠ none → out s.hunts .busy)
      ∧ (w.meas.release = false → x.held = none →
        out (s.hunts.setPath p
          { x with
            held := some m
            window := some
              { w with
                cut := decide (m.cls = w.meas.cls ∧ w.meas.cls ≠ .content ∧ w.meas.window = 8
                  ∧ w.counted < 4) } }) .ok))

/-- PROBE_RELEASE by the state of the path: in PARKED and RELEASING nothing changes; RECOVERING loses its held tune, whose
measurement ends ABORTED; in WAIT_FEED the path gives up its tap, or leaves the waiting list, and is RECOVERING at once, and
a posted measure ends ABORTED; in SETTLING and LOCKING a posted measure, and in MEASURING the running window and the held
measure, end ABORTED, and from there and from LOCKED the path is RELEASING while its earliest detach is ahead or a result
of it is outstanding, and else detaches at once. RELEASE does the same whoever sends it. A path that is not MANUAL refuses
WRONG_STATE, and a path above 7 is OUT_OF_RANGE (R23, R43, R44, R45, R46, R47, R52). -/
def Obligations.ProbeReleaseTaken : Prop :=
  (∀ (s : State) (tag b : Byte), s.takes = true → 8 ≤ b.toNat →
    exec (.probeRelease tag [b]) s = .next (s.hunts.owe 0xA3 tag ⟨.outOfRange, [1]⟩))
  ∧ (∀ (s : State) (tag : Byte) (p : Fin 8), s.takes = true →
    let x := s.path p
    let out (t : State) (code : ResultCode) : Prop :=
      exec (.probeRelease tag [byteOf p.1]) s = .next (t.owe 0xA3 tag ⟨code, []⟩)
    ((x.mode ≠ .manual ∨ x.pendingMode ≠ none) → out s.hunts .wrongState)
    ∧ (x.mode = .manual → x.pendingMode = none → out (s.hunts.takeRelease p) .ok))
  -- RELEASE, whoever sends it
  ∧ ∀ (s : State) (p : Fin 8),
    let x := s.path p
    let gives (t : State) : Prop := s.takeRelease p = t
    -- a measurement that has not started ends ABORTED
    let abort (c : Option Nat) (m : Option Meas) (v : State) : State :=
      match c, m with
      | some c, some m => v.deliver (unrun p c (some m) m.requester .aborted v.clock)
      | _, _ => v
    (s.waitingOn p = none ↔ ∀ f, p ∉ (s.feed f).waiting)
    ∧ (∀ f, s.waitingOn p = some f ↔ p ∈ (s.feed f).waiting ∧ ∀ g, g < f → p ∉ (s.feed g).waiting)
    ∧ ((x.state = .parked ∨ x.state = .releasing) → gives s)
    ∧ (x.state = .recovering →
      gives (abort (x.heldTune.map (·.carrier)) (x.heldTune.bind (·.meas)) (s.setPath p { x with heldTune := none })))
    ∧ (∀ f, x.state = .waitFeed → x.tap = some f →
      gives (abort x.tuned x.posted ((s.setPath p (s.recovering x)).serve f)))
    ∧ (∀ f, x.state = .waitFeed → x.tap = none → s.waitingOn p = some f →
      let u := s.leaveWaiting p f
      (u.path p = x → gives (abort x.tuned x.posted (u.setPath p (s.recovering x))))
      ∧ ((s.feed f).waiting.head? ≠ some p ∨ (s.feed f).state ≠ .on →
        u = s.setFeed f { s.feed f with waiting := (s.feed f).waiting.filter fun q => decide (q ≠ p) }))
    ∧ ((x.state = .settling ∨ x.state = .locking) → gives ((abort x.tuned x.posted s).leaves p))
    ∧ (x.state = .locked →
      gives (s.leaves p)
      ∧ ((x.outbox ≠ [] ∨ ∃ e, x.earliestDetach = some e ∧ reached s.clock e = false) →
        gives (s.setPath p
          { x with
            state := .releasing, posted := none, window := none, held := none, settleEnd := none, lockEnd := none
            blockEnd := none, contentEnd := none }))
      ∧ (∀ f, x.outbox = [] → (∀ e, x.earliestDetach = some e → reached s.clock e = true) → x.tap = some f →
        gives ((s.setPath p
          { x with
            state := .recovering, tuned := none, tuneRequester := none, posted := none, window := none, held := none
            tap := none, tuneDue := none, settleEnd := none, lockEnd := none, blockEnd := none, contentEnd := none
            earliestDetach := none, releaseTime := some s.clock
            recoveryEnd := some (s.clock + BitVec.ofNat 32 s.params.releaseRecovery) }).serve f)))
    ∧ ∀ c w, x.state = .measuring → x.tuned = some c → x.window = some w →
      gives ((abort (some c) x.held (s.deliver (w.figures p c .aborted none s.clock))).leaves p)

/-- A tune on its way: a held tune start falls and the path is SETTLING; the settle ends and it is LOCKING; the
demodulator acquires and it is LOCKED, or MEASURING under its posted measure; on a feed that gives no signal it does
not acquire (R21, R24, R36, R37). That an acquisition reported before the lock search finds nothing is the model's reading
(assumption log 29). -/
def Obligations.TuneProgresses : Prop :=
  ∀ (s : State) (p : Fin 8),
    let x := s.path p
    (∀ f e, x.state = .waitFeed → x.tap = some f → x.tuneDue = some e → reached s.clock e = true →
      exec (.tuneStart p) s
        = .next (s.setPath p
            { x with
              state := .settling, tuneDue := none, tuneStart := some s.clock
              earliestDetach := some (s.clock + BitVec.ofNat 32 s.params.minOccupancy)
              settleEnd := some (s.clock + BitVec.ofNat 32 (s.params.settle (s.feed f).kind)) }))
    ∧ (∀ e, x.state = .settling → x.settleEnd = some e → reached s.clock e = true →
      exec (.settleEnd p) s
        = .next (s.setPath p
            { x with
              state := .locking, settleEnd := none
              lockEnd := some (s.clock + BitVec.ofNat 32 s.params.lockTimeout) }))
    ∧ (x.state = .locking →
      (∀ f, x.tap = some f → ((s.feed f).state = .fault ∨ (s.feed f).state = .retry ∨ (s.feed f).state = .off) →
        exec (.acquisition p) s = .next s)
      ∧ (∀ f, x.tap = some f → ((s.feed f).state = .on ∨ (s.feed f).state = .setting) →
        (x.posted = none → exec (.acquisition p) s = .next (s.setPath p { x with state := .locked, lockEnd := none }))
        ∧ ∀ m, x.posted = some m →
          exec (.acquisition p) s
            = .next (s.setPath p
                { x with
                  state := .measuring, lockEnd := none, posted := none, held := none
                  window := some
                    { meas := m, lead := m.leadIn, leadDone := 0, counted := 0, locked := 0, levelSum := 0
                      merSum := 0, erroredSum := 0, observation := none
                      gathering := if m.cls = .content ∧ m.leadIn = 0 then some ⟨none, []⟩ else none, cut := false }
                  blockEnd := some (s.clock + 50)
                  contentEnd := if m.cls = .content ∧ m.leadIn = 0
                    then some (s.clock + BitVec.ofNat 32 s.params.contentTimeout) else none })))
    ∧ (x.state = .settling → exec (.acquisition p) s = .next s)

/-- The lock timeout: the tune has failed, its posted measure, or the tune alone, ends NO_LOCK with no block counted,
and the path is RELEASING, or past it where nothing holds it; the Sweep Engine then acts (R38, R47, R61). -/
def Obligations.LockTimeoutFailsTune : Prop :=
  ∀ (s : State) (p : Fin 8) (e : Stamp) (c : Nat) (q : Requester),
    let x := s.path p
    let record (m : Option Meas) (r : Requester) : Result :=
      { path := p, carrier := c, cls := m.map (·.cls), requester := r
        programmed := m.bind fun y => if y.cls = .content then none else some y.window
        counted := 0, outcome := .noLock, locked := 0, levelSum := 0, levelAvg := none, merSum := 0, erroredSum := 0
        observation := none, announcement := none, stamp := s.clock }
    x.state = .locking → x.lockEnd = some e → reached s.clock e = true → x.tuned = some c →
    x.tuneRequester = some q →
    (∀ m, x.posted = some m →
      exec (.lockTimeout p) s
        = .next ((((s.setPath p { x with posted := none, lockEnd := none }).deliver
            (record (some m) m.requester)).leaves p).runEngine))
    ∧ (x.posted = none →
      exec (.lockTimeout p) s
        = .next ((((s.setPath p { x with posted := none, lockEnd := none }).deliver
            (record none q)).leaves p).runEngine))

/-- A block end before the window's last: a lead-in block is passed over, and the last of a CONTENT read begins the
gathering and its timeout; a counted block adds its level, and, when it was locked and the window is QUALITY, its MER,
its errored packets and its seen version; a block that was not locked, of a CONTENT read too, adds its level alone; the
next block ends 50 ms later. Level is clamped to 240, MER to 400, and
the errored packets saturate at 65535. On a feed that gives no signal no block is locked (R24, R54 to R58, R62). That a
block is judged whole by the feed's state at its end is the model's choice (assumption log 36). -/
def Obligations.BlockEndCounts : Prop :=
  ∀ (s : State) (p : Fin 8) (b : BlockSample) (w : Window) (e : Stamp) (f : Fin 6),
    let x := s.path p
    let alive := (s.feed f).state = .on ∨ (s.feed f).state = .setting
    let goesOn := w.counted + 1 ≠ w.meas.window ∧ (w.cut = true → w.counted + 1 ≠ 4)
    x.state = .measuring → x.window = some w → x.blockEnd = some e → reached s.clock e = true → x.tap = some f →
    (w.leadDone < w.lead → (w.meas.cls = .content → w.leadDone + 1 ≠ w.lead) →
      exec (.blockEnd p b) s
        = .next (s.setPath p
            { x with window := some { w with leadDone := w.leadDone + 1 }, blockEnd := some (e + 50) }))
    ∧ (w.leadDone + 1 = w.lead → w.meas.cls = .content →
      exec (.blockEnd p b) s
        = .next (s.setPath p
            { x with
              window := some { w with leadDone := w.leadDone + 1, gathering := some ⟨none, []⟩ }
              blockEnd := some (e + 50), contentEnd := some (e + BitVec.ofNat 32 s.params.contentTimeout) }))
    ∧ (w.lead ≤ w.leadDone → w.meas.cls = .quality → goesOn → b.locked = true → alive →
      exec (.blockEnd p b) s
        = .next ((s.setPath p
            { x with
              window := some
                { w with
                  counted := w.counted + 1, locked := w.locked + 1, levelSum := w.levelSum + min 240 b.level
                  merSum := w.merSum + min 400 b.mer
                  erroredSum := min 65535 (w.erroredSum + min 65535 b.errored)
                  observation := match b.versions.getLast? with
                    | some v => some v.toNat
                    | none => w.observation }
              blockEnd := some (e + 50) }).runEngine))
    ∧ (w.lead ≤ w.leadDone → (w.meas.cls = .level ∧ goesOn ∨ w.meas.cls = .content) → b.locked = true → alive →
      exec (.blockEnd p b) s
        = .next ((s.setPath p
            { x with
              window := some
                { w with
                  counted := w.counted + 1, locked := w.locked + 1, levelSum := w.levelSum + min 240 b.level }
              blockEnd := some (e + 50) }).runEngine))
    ∧ (w.lead ≤ w.leadDone → (w.meas.cls ≠ .content ∧ goesOn ∨ w.meas.cls = .content) → (b.locked = false ∨ ¬ alive) →
      exec (.blockEnd p b) s
        = .next ((s.setPath p
            { x with
              window := some
                { w with
                  counted := w.counted + 1, levelSum := w.levelSum + min 240 b.level
                  erroredSum := if w.meas.cls = .quality then min 65535 w.erroredSum else w.erroredSum }
              blockEnd := some (e + 50) }).runEngine))

/-- The last block of a QUALITY or LEVEL window: the result carries the figures, the outcome is NO_LOCK when no counted
block was locked and COMPLETE otherwise, and it is handed over. A measure held behind the window then starts without its
lead-in, else the path leaves the carrier where the window's release flag is yes, and else it is LOCKED (R42, R49, R59,
R60). A half-point cut ends the window so at the end of its block 4, PARTIAL in place of COMPLETE, and the earliest detach
is not before the time at which the window would have ended uncut (R41). That the last block too is judged whole by the
feed's state at its end is the model's choice (assumption log 36).
What it is to hand a result over, here and wherever a statement names it: the requester is told first, a probe by
PROBE_RESULT with the path as its object and the detail of Table 13-11, a list by the result of its entry, a recheck by the
end of its loan; one that is ABORTED or that is of no class goes no further, and every other one goes to the end of the
path's outbox, where it waits for its receiver, with what R9 asks at this moment, whether the carrier is used and enabled
(R9, R49, R61, R68, R90). That the requester takes the result in this step, while the receiver takes it oldest first in a
step of its own, is the model's choice (assumption log 14). -/
def Obligations.WindowEndsWithResult : Prop :=
  (∀ (s : State) (p : Fin 8) (b : BlockSample) (w : Window) (e : Stamp) (c : Nat),
    let x := s.path p
    -- the block was locked, on a feed that gives a signal
    let good : Bool := b.locked && match x.tap with
      | some f => decide ((s.feed f).state = .on ∨ (s.feed f).state = .setting)
      | none => false
    let read : Bool := good && decide (w.meas.cls = .quality)
    let v : Window :=
      { w with
        counted := w.counted + 1, locked := if good then w.locked + 1 else w.locked
        levelSum := w.levelSum + min 240 b.level, merSum := if read then w.merSum + min 400 b.mer else w.merSum
        erroredSum :=
          if w.meas.cls = .quality then min 65535 (w.erroredSum + if good then min 65535 b.errored else 0)
          else w.erroredSum
        observation := if read then (b.versions.getLast?.map (·.toNat)).or w.observation else w.observation }
    let r (whole : MeasOutcome) : Result :=
      { path := p, carrier := c, cls := some w.meas.cls, requester := w.meas.requester
        programmed := some w.meas.window, counted := w.counted + 1
        outcome := if v.locked = 0 then .noLock else whole
        locked := v.locked, levelSum := v.levelSum, levelAvg := some (v.levelSum / (w.counted + 1))
        merSum := v.merSum, erroredSum := v.erroredSum, observation := v.observation, announcement := none
        stamp := s.clock }
    x.state = .measuring → x.window = some w → x.blockEnd = some e → reached s.clock e = true → x.tuned = some c →
    w.lead ≤ w.leadDone → w.meas.cls ≠ .content →
    let u (whole : MeasOutcome) : State :=
      (s.setPath p { x with window := some v, blockEnd := some (e + 50) }).deliver (r whole)
    (w.counted + 1 = w.meas.window → (w.cut = false ∨ w.counted + 1 ≠ 4) →
      (x.held = none → w.meas.release = false →
        exec (.blockEnd p b) s
          = .next (((u .complete).setPath p
              { (u .complete).path p with
                state := .locked, window := none, blockEnd := none, contentEnd := none }).runEngine))
      ∧ (x.held = none → w.meas.release = true →
        exec (.blockEnd p b) s = .next (((u .complete).leaves p).runEngine))
      ∧ ∀ m, x.held = some m →
        exec (.blockEnd p b) s
          = .next (((u .complete).setPath p
              { (u .complete).path p with
                state := .measuring, posted := none, held := none
                window := some
                  { meas := m, lead := 0, leadDone := 0, counted := 0, locked := 0, levelSum := 0, merSum := 0
                    erroredSum := 0, observation := none
                    gathering := if m.cls = .content then some ⟨none, []⟩ else none, cut := false }
                blockEnd := some (e + 50)
                contentEnd := if m.cls = .content
                  then some (e + BitVec.ofNat 32 s.params.contentTimeout) else none }).runEngine))
    ∧ (w.cut = true → w.counted + 1 = 4 →
      let t := (u .partialWindow).windowOver p w e
      exec (.blockEnd p b) s
        = .next ((t.setPath p
            { t.path p with
              earliestDetach := some
                (match (t.path p).earliestDetach with
                | none => e + 200
                | some d => if reached d (e + 200) = true then d else e + 200) }).runEngine)))
  -- the hand-over of a result
  ∧ (∀ (s : State) (r : Result),
    let p := r.path
    let cls : Byte := match r.cls with
      | some .quality => 0
      | some .level => 1
      | some .content => 2
      | none => 0xFF
    let outcome : Byte := match r.outcome with
      | .complete => 0
      | .partialWindow => 1
      | .noLock => 2
      | .aborted => 3
      | .incomplete => 4
      | .truncated => 5
    let orNone (x : Option Nat) : Byte := match x with
      | some n => byteOf n
      | none => 0xFF
    let mer := if r.cls = some .quality ∧ 1 ≤ r.locked then r.merSum / r.locked else 0
    let detail : List Byte :=
      [byteOf r.carrier, cls, outcome, orNone r.programmed, byteOf r.counted, byteOf r.locked, orNone r.levelAvg
      , byteOf r.erroredSum, byteOf (r.erroredSum / 256), byteOf mer, byteOf (mer / 256)]
    let taken : State := match r.requester with
      | .probe => s.post .probeResult p.1 detail
      | .list => s.entryResult p r.outcome
      | .recheck => if (s.sweep p).loan = none then s else s.endLoan p
    let applied : Bool := match s.carrier r.carrier with
      | some x => x.plan.enabled
      | none => false
    ((r.cls = none ∨ r.outcome = .aborted) → s.deliver r = taken)
    ∧ (r.cls ≠ none → r.outcome ≠ .aborted →
      s.deliver r = taken.setPath p { s.path p with outbox := (s.path p).outbox ++ [⟨r, applied⟩] })
    ∧ taken.path p = s.path p
    ∧ (((s.sweep p).stage ≠ .inFlight ∨ (s.sweep p).current = none) → s.entryResult p r.outcome = s))

/-- A section that arrives during gathering and does not complete the read: its number above the last one's passes it
over; another identity, version or last section begins the gathering again with it; a number already held passes it
over; any other section is held. The section that leaves none of sections 0 to the last missing completes the read: its
result is handed over with the announcement built, COMPLETE or TRUNCATED, and a held measure then starts, else the path
leaves the carrier where the release flag is yes, and else it is LOCKED (R42, R62, R63). Outside gathering a section finds
nothing (R62); that it finds nothing either on a feed that gives no signal is the model's reading (assumption log 29).
The announcement is built from the entries in the order of their sections: those of service id 0 or of a kind that is none
of TV, RADIO and DATA are passed over, of each service id the first is kept, of those the first 32, and it is TRUNCATED
where more were left; a name is cut to its first 20 characters (R64, R65). -/
def Obligations.SectionIsGathered : Prop :=
  (∀ (s : State) (p : Fin 8) (sec : AnnouncementSection) (w : Window) (g h : Gathering) (f : Fin 6),
    let x := s.path p
    let hd : GatheringHead := ⟨⟨sec.network.toNat, sec.stream.toNat⟩, sec.version.toNat, sec.last.toNat⟩
    x.state = .measuring → x.window = some w → w.gathering = some g → x.tap = some f →
    ((s.feed f).state = .on ∨ (s.feed f).state = .setting) →
    ((sec.last.toNat < sec.number.toNat ∧ h = g)
      ∨ (sec.number.toNat ≤ sec.last.toNat ∧ g.head ≠ some hd ∧ h = ⟨some hd, [⟨sec.number.toNat, sec.entries⟩]⟩)
      ∨ (sec.number.toNat ≤ sec.last.toNat ∧ g.head = some hd
        ∧ (∃ y ∈ g.sections, y.number = sec.number.toNat) ∧ h = g)
      ∨ (sec.number.toNat ≤ sec.last.toNat ∧ g.head = some hd
        ∧ (∀ y ∈ g.sections, y.number ≠ sec.number.toNat)
        ∧ h = ⟨some hd, g.sections ++ [⟨sec.number.toNat, sec.entries⟩]⟩)) →
    (h.complete = false →
      exec (.announcementSection p sec) s
        = .next (s.setPath p { x with window := some { w with gathering := some h } }))
    ∧ ∀ a, h.complete = true → h.announcement = some a →
      exec (.announcementSection p sec) s
        = .next ((((s.setPath p { x with window := some { w with gathering := some h } }).endWindow p
            (if a.truncated then .truncated else .complete) (some a) s.clock)).runEngine)
      ∧ ∀ c, x.tuned = some c →
        let v := { w with gathering := some h }
        exec (.announcementSection p sec) s
          = .next (((((s.setPath p { x with window := some v }).deliver
              (v.figures p c (if a.truncated = true then .truncated else .complete) (some a) s.clock)).windowOver p v
                s.clock)).runEngine))
  ∧ (∀ (s : State) (p : Fin 8) (sec : AnnouncementSection),
    let x := s.path p
    ((∀ f, x.tap = some f → (s.feed f).state = .fault ∨ (s.feed f).state = .retry ∨ (s.feed f).state = .off) →
      exec (.announcementSection p sec) s = .next s)
    ∧ ((x.state ≠ .measuring ∨ ∀ w, x.window = some w → w.gathering = none) →
      exec (.announcementSection p sec) s = .next s))
  ∧ ∀ (h : Gathering) (hd : GatheringHead), h.head = some hd →
    (h.complete = true ↔ ∀ n, n ≤ hd.last → ∃ y ∈ h.sections, y.number = n)
    ∧ (let sent := (List.range (hd.last + 1)).flatMap fun n =>
        ((h.sections.find? fun y => decide (y.number = n)).map (·.entries)).getD []
      let left := firstByServiceId (sent.filter fun e => decide (e.serviceId ≠ 0 ∧ e.kind.toNat < 3))
      h.announcement = some
        { identity := hd.identity, version := hd.version, truncated := decide (32 < left.length)
          entries := (left.take 32).map fun e =>
            { serviceId := e.serviceId.toNat
              kind := if e.kind.toNat = 0 then .tv else if e.kind.toNat = 1 then .radio else .data
              scrambled := e.scrambled, running := e.running, name := e.name.take 20 } })

/-- A read that has not completed by its content timeout ends INCOMPLETE: its result carries the blocks counted, their
level figures and no announcement, and is handed over; a held measure then starts, else the path leaves the carrier where
the release flag is yes, and else it is LOCKED (R42, R60, R66). That before the timeout nothing happens is the model's
choice (assumption log 7). -/
def Obligations.ContentTimeoutEndsRead : Prop :=
  ∀ (s : State) (p : Fin 8) (w : Window) (g : Gathering) (e : Stamp) (c : Nat),
    (s.path p).state = .measuring → (s.path p).window = some w → w.gathering = some g →
    (s.path p).contentEnd = some e → (s.path p).tuned = some c → w.meas.cls = .content →
    (reached s.clock e = true →
      exec (.contentTimeout p) s
        = .next (((s.deliver
            { path := p, carrier := c, cls := some .content, requester := w.meas.requester, programmed := none
              counted := w.counted, outcome := .incomplete, locked := w.locked, levelSum := w.levelSum
              levelAvg := if w.counted = 0 then none else some (w.levelSum / w.counted), merSum := w.merSum
              erroredSum := w.erroredSum, observation := w.observation, announcement := none
              stamp := s.clock }).windowOver p w s.clock).runEngine))
    ∧ (reached s.clock e = false → exec (.contentTimeout p) s = .next s)

/-- A RELEASING path detaches once its earliest detach has passed and none of its results is outstanding: it is
RECOVERING without a tap, with its recovery timer running, and its feed serves its waiting list; before that
EARLIEST_DETACH finds nothing to detach, which is the model's choice (assumption log 7). At the end of the recovery a path
without a held tune is PARKED, in its pending mode if it has one, of which the Sweep Engine is told: its list is
SUSPENDED, or returns to its resume state, as at PATH_MODE (R75; logs 15 and 46 there). A held tune is taken
as a TUNE in PARKED: on a feed that is OFF it ends NO_LOCK and the path is PARKED; else the path asks its feed to attach. A
held probe tune whose feed would refuse it FEED_BUSY ends NO_LOCK and the path is PARKED (R19, R22, R33, R34, R47, R48, R75).
Two clauses are the model's choice: that a held tune whose carrier is not in use, which no rule foresees, ends NO_LOCK too
(assumption log 42), and that a refused probe tune which carries a measurement makes the measurement's record alone (log
45). -/
def Obligations.DetachAndRecovery : Prop :=
  ∀ (s : State) (p : Fin 8),
    let x := s.path p
    (∀ f, x.state = .releasing → (∀ e, x.earliestDetach = some e → reached s.clock e = true) → x.outbox = [] →
      x.tap = some f →
      exec (.earliestDetach p) s
        = .next (((s.setPath p
            { x with
              state := .recovering, tuned := none, tuneRequester := none, posted := none, window := none, held := none
              tap := none, tuneDue := none, settleEnd := none, lockEnd := none, blockEnd := none, contentEnd := none
              earliestDetach := none, releaseTime := some s.clock
              recoveryEnd := some (s.clock + BitVec.ofNat 32 s.params.releaseRecovery) }).serve f).runEngine))
    ∧ (x.state = .releasing → (x.outbox ≠ [] ∨ ∃ e, x.earliestDetach = some e ∧ reached s.clock e = false) →
      exec (.earliestDetach p) s = .next s.runEngine)
    -- the same where a result has left the outbox
    ∧ (x.state = .releasing → (∀ e, x.earliestDetach = some e → reached s.clock e = true) → x.outbox = [] →
      s.tryDetach p = s.leaves p)
    ∧ ((x.state ≠ .releasing ∨ x.outbox ≠ [] ∨ ∃ e, x.earliestDetach = some e ∧ reached s.clock e = false) →
      s.tryDetach p = s)
    ∧ ∀ e, x.state = .recovering → x.recoveryEnd = some e → reached s.clock e = true →
      let parked : Path :=
        { x with
          state := .parked, tuned := none, tuneRequester := none, posted := none, window := none, held := none
          heldTune := none, tap := none, tuneDue := none, settleEnd := none, lockEnd := none, blockEnd := none
          contentEnd := none, recoveryEnd := none, earliestDetach := none }
      (x.heldTune = none → x.pendingMode = none →
        exec (.recoveryEnd p) s = .next (s.setPath p parked).runEngine)
      ∧ (∀ m, x.heldTune = none → x.pendingMode = some m →
        let u := s.setPath p { parked with mode := m, pendingMode := none }
        (m = .list → exec (.recoveryEnd p) s = .next (u.listJoined p).runEngine)
        ∧ (m ≠ .list → exec (.recoveryEnd p) s = .next (u.listLeft p).runEngine))
      ∧ ∀ h, x.heldTune = some h →
        let u := s.setPath p { x with state := .parked, heldTune := none, recoveryEnd := none }
        let fails :=
          exec (.recoveryEnd p) s
            = .next ((u.deliver (unrun p h.carrier h.meas h.requester .noLock s.clock)).rests p).runEngine
        (s.carrier h.carrier = none → fails)
        ∧ ∀ c, s.carrier h.carrier = some c →
          let feed := s.feed c.plan.feed
          let ready := feed.state = .on ∧ feed.waiting = []
            ∧ (s.users c.plan.feed = 0
              ∨ s.users c.plan.feed < 4 ∧ (c.plan.setting = none ∨ feed.setting = c.plan.setting))
          (feed.state = .off → fails)
          ∧ (h.requester = .probe → ¬ ready → fails)
          ∧ (feed.state ≠ .off → (h.requester = .probe → ready) →
            exec (.recoveryEnd p) s
              = .next ((u.setPath p
                  { u.path p with
                    state := .waitFeed, tuned := some h.carrier, tuneRequester := some h.requester
                    posted := h.meas }).attach p c.plan.feed).runEngine)

/-! ## Survey control -/

/-- The survey requests by survey state: accepted in the states Table 11-1 gives and refused WRONG_STATE in the others with
nothing changed; an accepted one posts SURVEY_STATE with cause REQUEST and changes the lists, and nothing else but what the
Sweep Engine then does (R169, R171, R172, R173, R174). SURVEY_START sets every list that has a descriptor at its first
entry, RUNNING where its path is driven and else SUSPENDED; SURVEY_PAUSE suspends every RUNNING or RESTING list, an entry
begun and not issued being unbegun; SURVEY_RESUME returns the lists whose paths are driven to their resume states, a rest
counting again from that moment (R74, R81). SURVEY_STOP sets every list IDLE, empties the Recheck Queue and sends each path
in LIST mode RELEASE in path order; the survey is STOPPING, or STOPPED where every LIST path was PARKED (R83, R174, R175).
STOPPING ends when the last LIST path is PARKED, as at its RECOVERY_END: the survey is STOPPED, with SURVEY_STATE of cause
PATHS_PARKED (R169, R175).
That a rest resumed counts no tick boundary at the resume's own clock reading is the model's choice (assumption log 46). -/
def Obligations.SurveyRequestsByState : Prop :=
  (∀ s : State, s.survey = .stopping → (∀ n, (s.sweep n).still) →
    let ended (u : State) : State := ({ u with survey := .stopped } : State).post .surveyState 0 [3, 0, 1]
    ((∀ p, (s.path p).mode = .list → (s.path p).state = .parked) → s.runEngine = ended s)
    ∧ ((∃ p, (s.path p).mode = .list ∧ (s.path p).state ≠ .parked) → s.runEngine = s)
    ∧ ∀ p e, (s.path p).state = .recovering → (s.path p).heldTune = none → (s.path p).recoveryEnd = some e →
      reached s.clock e = true →
      ((∀ q, q ≠ p → (s.path q).mode = .list → (s.path q).state = .parked) →
        exec (.recoveryEnd p) s = .next (ended (s.rests p)))
      ∧ ((∃ q, q ≠ p ∧ (s.path q).mode = .list ∧ (s.path q).state ≠ .parked) →
        exec (.recoveryEnd p) s = .next (s.rests p)))
  ∧ ∀ (s : State) (tag : Byte), s.takes = true →
    let driven (n : Fin 8) : Prop := (s.path n).mode = .list ∧ (s.path n).pendingMode = none
    -- the survey enters a state at a request, and each list becomes what `f` gives
    let enters (x : SurveyState) (f : Fin 8 → SweepList) (v : State) : Prop :=
      ∃ ls : Vector SweepList 8, (∀ n, tabGet ls n = f n) ∧
        v = { (({ s.hunts with survey := x } : State).post .surveyState 0
          [byteOf s.survey.code, byteOf x.code, 0]) with lists := ls }
    (s.survey = .stopped → ∃ v, enters .running (fun n =>
        match (s.sweep n).descriptor with
        | none => s.sweep n
        | some d =>
          { s.sweep n with
            position := d.first, pass := 1, rest := 0, allSkipped := true, seek := none, doneReason := none
            state := if driven n then .running else .suspended
            resume := if driven n then none else some .running }) v
      ∧ exec (.surveyStart tag []) s = .next (v.runEngine.owe 0xB0 tag ⟨.ok, []⟩)
      ∧ v.runEngine.survey = .running ∧ SweepFrame false v v.runEngine)
    ∧ (s.survey ≠ .stopped → exec (.surveyStart tag []) s = .next (s.hunts.owe 0xB0 tag ⟨.wrongState, []⟩))
    ∧ (s.survey = .running → ∃ v, enters .paused (fun n =>
        (s.sweep n).halted) v
      ∧ exec (.surveyPause tag []) s = .next (v.owe 0xB1 tag ⟨.ok, []⟩))
    ∧ (s.survey ≠ .running → exec (.surveyPause tag []) s = .next (s.hunts.owe 0xB1 tag ⟨.wrongState, []⟩))
    ∧ (s.survey = .paused → ∃ v, enters .running (fun n =>
        if driven n then (s.sweep n).returned s.clock else s.sweep n) v
      ∧ exec (.surveyResume tag []) s = .next (v.runEngine.owe 0xB2 tag ⟨.ok, []⟩)
      ∧ v.runEngine.survey = .running ∧ SweepFrame false v v.runEngine)
    ∧ (s.survey ≠ .paused → exec (.surveyResume tag []) s = .next (s.hunts.owe 0xB2 tag ⟨.wrongState, []⟩))
    ∧ (s.survey = .running ∨ s.survey = .paused → ∃ v, enters .stopping (fun n =>
        let l := s.sweep n
        { l with
          state := .idle, position := (l.descriptor.map (·.first)).getD l.position, pass := 1, rest := 0
          stage := .notBegun, seek := none, loan := none, resume := none, doneReason := none, current := none
          restBegan := none, direct := false }) v
      ∧ let u : State := allPaths.foldl (fun y p => if (y.path p).mode = .list then y.takeRelease p else y)
          { v with recheckQueue := [] }
        exec (.surveyStop tag []) s = .next (u.runEngine.owe 0xB3 tag ⟨.ok, []⟩)
        ∧ u.runEngine.recheckQueue = []
        ∧ (∀ n, (u.runEngine.sweep n).state = .idle ∧ (u.runEngine.sweep n).loan = none)
        ∧ (u.runEngine.survey = .stopping ∨ u.runEngine.survey = .stopped)
        ∧ ((∀ p, (s.path p).mode = .list → (s.path p).state = .parked) → u.runEngine.survey = .stopped)
        ∧ u.runEngine.carriers = s.carriers ∧ u.runEngine.services = s.services ∧ u.runEngine.slots = s.slots
        ∧ u.runEngine.shelves = s.shelves ∧ u.runEngine.params = s.params ∧ u.runEngine.planMemory = s.planMemory)
    ∧ (s.survey = .stopped ∨ s.survey = .stopping →
      exec (.surveyStop tag []) s = .next (s.hunts.owe 0xB3 tag ⟨.wrongState, []⟩))

/-- RESTART is accepted in every survey state; it changes nothing until its reply has been sent (R176). That RESTART_SURVEY
and RESTART_ALL find nothing to do until then is the model's reading (assumption log 13). RESTART_ALL, once the reply has
been sent, brings the cold-start condition, but that the Control Link keeps the replies it owes to requests, without a
FRAME_ERROR, the requests that wait and the frame in reception (R176, R178, R192). The requests that waited for a restart are
taken after it, against the state it has left, in order and each as a request that arrives is, up to a further RESTART, and
their replies follow in that order (R176, R181); that they are taken in the step of the restart (log 13), and that a
FRAME_ERROR which waits keeps its place among them (log 11), is the model's reading. That the latest byte of the frame in
reception stays as old as it was is the model's reading (log 35); that each Shelf Line receiver hunts, so that a shelf
frame partly received is dropped (log 43), and that the queue of commands and the count of free values are kept (log 1),
is its choice. -/
def Obligations.RestartWaitsForItsReply : Prop :=
  (∀ (s : State) (tag : Byte), s.takes = true →
    exec (.restart tag [0]) s
      = .next (({ s.hunts with restarting := some .survey } : State).owe 0xB4 tag ⟨.ok, []⟩)
    ∧ exec (.restart tag [1]) s
      = .next (({ s.hunts with restarting := some .all } : State).owe 0xB4 tag ⟨.ok, []⟩)
    ∧ (∀ b : Byte, 1 < b.toNat →
      exec (.restart tag [b]) s = .next (s.hunts.owe 0xB4 tag ⟨.outOfRange, [1]⟩))
    ∧ ∀ (u : State) (r : Reply), r ∈ u.replies → r.kind = 0xB4 → r.code = .ok →
      exec .restartSurvey u = .next u ∧ exec .restartAll u = .next u)
  ∧ (∀ s : State, s.restarting = some .all → (∀ r ∈ s.replies, ¬ (r.kind = 0xB4 ∧ r.code = .ok)) → s.waiting = [] →
    exec .restartAll s
      = .next { State.reset with
          pending := s.pending, freeCount := s.freeCount
          frameInput := match s.frameInput with
            | .hunting => .hunting
            | .receiving got last => .receiving got (last - s.clock)
          replies := s.replies.filter fun r => decide (r.code ≠ .frameError) })
  -- with requests that wait
  ∧ (∀ s : State, s.restarting = some .all → (∀ r ∈ s.replies, ¬ (r.kind = 0xB4 ∧ r.code = .ok)) →
    let requests := s.waiting.filter fun a => decide (a ≠ .frameError)
    exec .restartAll s
      = .next (State.takeWaiting requests
          { State.reset with
            pending := s.pending, freeCount := s.freeCount, waiting := requests
            frameInput := match s.frameInput with
              | .hunting => .hunting
              | .receiving got last => .receiving got (last - s.clock)
            replies := s.replies.filter fun r => decide (r.code ≠ .frameError) }))
  -- how they are taken
  ∧ ∀ s : State,
    s.takeWaiting [] = s
    ∧ (∀ rest, s.takeWaiting (.frameError :: rest)
      = State.takeWaiting rest
          { s with waiting := rest, replies := s.replies ++ [⟨0xFF, 0, .frameError, []⟩] })
    ∧ (∀ c r rest, requestOf c = some r →
      (s.restarting ≠ none → s.takeWaiting (.request r :: rest) = s)
      ∧ (s.restarting = none →
        s.takeWaiting (.request r :: rest) = State.takeWaiting rest (({ s with waiting := rest } : State).answer r))
      ∧ (s.takes = true → r.body.length ≤ 1024 → exec c s = .next (s.hunts.answer r)))
    ∧ (s.restarting = none → (∀ r, .request r ∈ s.waiting → r.kind ≠ 0x34) →
      let t := s.takeWaiting s.waiting
      t.waiting = [] ∧ t.restarting = none ∧ ∃ l, t.replies = s.replies ++ l
        ∧ l.map (fun x => (x.kind, x.tag)) = s.waiting.map fun a =>
          match a with
          | .request r => (if r.kind.toNat < 0x80 then r.kind + 0x80 else r.kind, r.tag)
          | .frameError => (0xFF, 0))

/-- RESTART_SURVEY, once the reply has been sent (R177). The survey is STOPPED, with SURVEY_STATE of
cause RESTART where it was not; every list is IDLE without a loan and the Recheck Queue empty; every path is PARKED in its
mode or its pending one with nothing tuned, and what a probe was measuring or had asked for is told ABORTED; each feed is
as it was with nobody waiting; each shelf drops its orders, each win count is 0, and each SWITCHING slot hands over a new
SET for its target with its last reason, in slot order; each FRESH carrier is STALE with its standing kept, every miss
count is 0, and the carriers so changed are reported RESTARTED in carrier order. Everything else is kept: the parameters,
masks, Plan Memory, aliases, and, where no candidate is an orphan, every service, and every slot but those in SEEKING or
ON_AIR, which the reports evaluate (R14, R29, R53, R74, R105, R128, R153, R168, R177). The requests that waited for it are
then taken, as after RESTART_ALL (R176; in this step, the model's reading, assumption log 13). The order of the blocks
that R177 leaves open is its reading too (log 25), and the order of the ABORTED results its choice (log 44). -/
def Obligations.RestartSurveyParks : Prop :=
  ∀ s : State, s.restarting = some .survey → (∀ r ∈ s.replies, ¬ (r.kind = 0xB4 ∧ r.code = .ok)) →
    -- a result of a probe is told, one of a list or a recheck is not
    let told (p : Fin 8) (r : Option Result) (v : State) : State :=
      match r with
      | some r => if r.requester = .probe then v.post .probeResult p.1 r.probeDetail else v
      | none => v
    let asked (p : Fin 8) (c : Option Nat) (m : Option Meas) : Option Result :=
      match c, m with
      | some c, some m => some (unrun p c (some m) m.requester .aborted s.clock)
      | _, _ => none
    let parks (v : State) (p : Fin 8) : State :=
      let x := s.path p
      let run : Option Result :=
        match x.tuned, x.window with
        | some c, some w => some (w.figures p c .aborted none s.clock)
        | _, _ => none
      (told p (asked p (x.heldTune.map (·.carrier)) (x.heldTune.bind (·.meas))) (told p (asked p x.tuned x.held)
        (told p (asked p x.tuned x.posted) (told p run v)))).setPath p
          { Path.cold with mode := x.pendingMode.getD x.mode }
    let stopped : State :=
      if s.survey = .stopped then s
      else ({ s with survey := .stopped } : State).post .surveyState 0 [byteOf s.survey.code, 0, 2]
    let still : State := allPaths.foldl parks
      { stopped with
        recheckQueue := []
        lists := tabMap (fun l =>
          { l with
            state := .idle, position := (l.descriptor.map (·.first)).getD l.position, pass := 1, rest := 0
            stage := .notBegun, seek := none, loan := none, resume := none, doneReason := none, current := none
            restBegan := none, direct := false }) s.lists }
    let cleared : State :=
      { still with
        feeds := tabMap (fun x => { x with waiting := [] }) s.feeds
        shelves := tabMap (fun x => { x with queue := [], inFlight := none }) s.shelves
        slots := tabMap (fun x => { x with wins := 0 }) s.slots }
    let ordered : State := allSlots.foldl (fun v i =>
      match (s.slot i).state, (s.slot i).target, (s.slot i).lastReason with
      | .switching, some n, some r => v.giveOrder i n r
      | _, _, _ => v) cleared
    let rested (x : Reception) : Reception :=
      { x with
        state := if x.state = .fresh then .stale else x.state
        staleEnd := if x.state = .fresh then none else x.staleEnd
        misses := 0 }
    let aged : State :=
      { ordered with carriers := s.carriers.map fun e => (e.1, { e.2 with reception := rested e.2.reception }) }
    let changed := s.carriers.filter fun e => decide (e.2.reception.state = .fresh ∨ e.2.reception.misses ≠ 0)
    ∃ t, t = { (changed.foldl (fun v e => v.reportCarrier e.1 .restarted e.2.reception) aged) with restarting := none }
      ∧ exec .restartSurvey s = .next (State.takeWaiting s.waiting t)
      ∧ (s.waiting = [] → exec .restartSurvey s = .next t)
      ∧ t.waiting = s.waiting
      ∧ t.survey = .stopped ∧ t.restarting = none ∧ t.clock = s.clock ∧ t.tickEnd = s.tickEnd ∧ t.params = s.params
      ∧ t.masks = s.masks ∧ t.planMemory = s.planMemory ∧ t.bindings = s.bindings ∧ t.replies = s.replies
      ∧ (∀ p, t.path p = { Path.cold with mode := (s.path p).pendingMode.getD (s.path p).mode })
      ∧ (∀ n, (t.sweep n).state = .idle ∧ (t.sweep n).loan = none
        ∧ (t.sweep n).descriptor = (s.sweep n).descriptor)
      ∧ (∀ f, t.feed f = { s.feed f with waiting := [] })
      ∧ (∀ c, t.carrier c = (s.carrier c).map fun x => { x with reception := rested x.reception })
      ∧ (∀ h, (t.shelf h).state = (s.shelf h).state ∧ (t.shelf h).timeouts = (s.shelf h).timeouts)
      ∧ (∀ i, (t.slot i).binding = (s.slot i).binding)
      ∧ ((∀ n, s.noOrphan n) → t.services = s.services
        ∧ ∀ i, (s.slot i).state ≠ .seeking → (s.slot i).state ≠ .onAir → t.slot i = ordered.slot i
          ∧ ((s.slot i).state ≠ .switching → t.slot i = { s.slot i with wins := 0 }))

/-! ## Services -/

/-- ALIAS_BIND, ALIAS_UNBIND and SERVICE_DROP. A bind that finds no room is NO_ROOM, one of a bound pair DUPLICATE. Else
it stores the alias, and makes the BOUND service where it is missing; where a FOUND service has the pair as its
origin, that service is merged away and its slots are bound to the key: the key's service takes its candidates beside its
own, and of more than 6 it keeps those to which slots refer and the best of the others in rank order; the rest are freed,
best first, with CANDIDATE_OVERFLOW, which is the model's reading (assumption log 23), and the merge is reported. A freed
candidate leaves its list and every slot field that named it (R114, R124). An unbind removes the alias and nothing else.
A service id of 0 is OUT_OF_RANGE on field 2, and a key of 0 or above 0x7FFF, in a bind, on field 3. A drop takes any key
of 1 to 0x817F, BOUND or FOUND: it is refused IN_USE while a slot is bound, and else removes the
service with its aliases and frees its candidates, without a report; any other key is OUT_OF_RANGE (R122 to R126). -/
def Obligations.AliasAndDropRequests : Prop :=
  (∀ (s : State) (tag n0 n1 i0 i1 k0 k1 : Byte), s.takes = true →
    let serviceId := i0.toNat + 256 * i1.toNat
    let key := k0.toNat + 256 * k1.toNat
    let range (n : Byte) : Prop :=
      exec (.aliasBind tag [n0, n1, i0, i1, k0, k1]) s = .next (s.hunts.owe 0xB8 tag ⟨.outOfRange, [n]⟩)
    (serviceId = 0 →
      range 2 ∧ exec (.aliasUnbind tag [n0, n1, i0, i1]) s = .next (s.hunts.owe 0xB9 tag ⟨.outOfRange, [2]⟩))
    ∧ (serviceId ≠ 0 → (key = 0 ∨ 0x7FFF < key) → range 3))
  -- what a pair is bound to, the FOUND service that has it as its origin, and the candidates that slots refer to
  ∧ (∀ (s : State) (p : Pair) (key : Nat),
    (∀ k, s.boundKey p = some k → ∃ b ∈ s.bindings, b.pair = p ∧ b.key = k)
    ∧ (s.boundKey p = none ↔ ∀ b ∈ s.bindings, b.pair ≠ p)
    ∧ (∀ k, s.foundKey p = some k → ∃ v, (k, v) ∈ s.services ∧ v.pair = some p)
    ∧ (s.foundKey p = none ↔ ∀ k v, (k, v) ∈ s.services → v.pair ≠ some p)
    ∧ (s.service key = none → s.referredCount key = 0)
    ∧ ∀ v, s.service key = some v → s.referredCount key = (v.cands.filter fun y => s.referred y.name).length)
  ∧ (∀ (s : State) (tag : Byte) (p : Pair) (key : Nat), s.takes = true → p.network < 65536 → 1 ≤ p.serviceId →
    p.serviceId < 65536 → 1 ≤ key → key ≤ 0x7FFF →
    let bind (t : State) (code : ResultCode) : Prop :=
      exec (.aliasBind tag (le16 p.network ++ le16 p.serviceId ++ le16 key)) s = .next (t.owe 0xB8 tag ⟨code, []⟩)
    let unbind (t : State) (code : ResultCode) : Prop :=
      exec (.aliasUnbind tag (le16 p.network ++ le16 p.serviceId)) s = .next (t.owe 0xB9 tag ⟨code, []⟩)
    let bound : State := { s.hunts with bindings := insertBy PairBinding.before ⟨p, key⟩ s.bindings }
    (512 ≤ s.bindings.length → bind s.hunts .noRoom)
    ∧ (s.foundKey p = none → s.service key = none → 384 ≤ s.services.length → bind s.hunts .noRoom)
    ∧ (s.foundKey p = none → s.bindings.length < 512 → (s.service key ≠ none ∨ s.services.length < 384) →
      (s.boundKey p ≠ none → bind s.hunts .duplicate)
      ∧ (s.boundKey p = none → s.service key ≠ none → bind bound .ok)
      ∧ (s.boundKey p = none → s.service key = none →
        bind (bound.setService key { pair := none, kind := .unknown, name := [], cands := [] }) .ok))
    ∧ (∀ found, s.foundKey p = some found → found ≠ key → s.bindings.length < 512 → s.boundKey p = none →
      (6 < s.referredCount key + s.referredCount found → bind s.hunts .noRoom)
      ∧ (s.referredCount key + s.referredCount found ≤ 6 → ∃ t, bind t .ok
        ∧ t.boundKey p = some key ∧ t.service found = none ∧ t.carriers = s.carriers ∧ t.replies = s.hunts.replies
        ∧ ∀ i, (t.slot i).binding
            = (s.slot i).binding.map fun b => if b.key = found then { b with key := key } else b)
      ∧ (s.referredCount key + s.referredCount found ≤ 6 → ∀ F, s.service found = some F →
        let joined : Service := match s.service key with
          | none => { pair := none, kind := F.kind, name := F.name, cands := F.cands }
          | some K =>
            { pair := K.pair, kind := if K.kind = .unknown then F.kind else K.kind
              name := if K.name = [] then F.name else K.name
              cands := sortBy Candidate.nameBefore (K.cands ++ F.cands) }
        let moved : State := (bound.setService key joined).setService found { F with cands := [] }
        let referred := joined.cands.filter fun c => s.referred c.name
        let others := moved.rankOrder joined.cands |>.filter fun c => !s.referred c.name
        let surplus := others.drop (6 - referred.length)
        let freed : State := surplus.foldl (fun v c => v.freeCandidate c.name) moved
        let told : State := match surplus.getLast? with
          | none => freed
          | some c => freed.post .candidateOverflow key (byteOf surplus.length :: c.name.bytes)
        let merged : State :=
          { told with
            slots := tabMap (fun x =>
              { x with binding := x.binding.map fun b => if b.key = found then { b with key := key } else b }) told.slots
            services := Store.del told.services found }
        bind (merged.handReports
          (if (merged.service key).isSome = true then [merged.rankReport key .merge none none] else [])) .ok))
    ∧ (∀ n k c v, s.candidate? n = some (k, c) → s.service k = some v →
      let left := v.cands.filter fun y => decide (y.name ≠ n)
      let u : State :=
        { s.setService k { v with cands := left } with
          slots := tabMap (fun x =>
            { x with
              challenger := if x.challenger = some n then none else x.challenger
              wins := if x.challenger = some n then 0 else x.wins
              bar := x.bar.bind fun b => if b.cand = n then none else some b
              lastTarget := if x.lastTarget = some n then none else x.lastTarget }) s.slots }
      ((v.pair = none ∨ left ≠ [] ∨ ∃ i b, (s.slot i).binding = some b ∧ b.key = k) → s.freeCandidate n = u)
      ∧ (v.pair ≠ none → left = [] → (∀ i b, (s.slot i).binding = some b → b.key ≠ k) →
        s.freeCandidate n = { u with services := Store.del u.services k }))
    ∧ (s.boundKey p = none → unbind s.hunts .notFound)
    ∧ (s.boundKey p ≠ none →
      unbind { s.hunts with bindings := s.bindings.filter fun b => decide (b.pair ≠ p) } .ok))
  ∧ ∀ (s : State) (tag k0 k1 : Byte), s.takes = true →
    let key := k0.toNat + 256 * k1.toNat
    let drop (t : State) (code : ResultCode) : Prop :=
      exec (.serviceDrop tag [k0, k1]) s = .next (t.owe 0xBA tag ⟨code, []⟩)
    ((key = 0 ∨ 0x817F < key) → exec (.serviceDrop tag [k0, k1]) s = .next (s.hunts.owe 0xBA tag ⟨.outOfRange, [1]⟩))
    ∧ (1 ≤ key → key ≤ 0x817F →
      (s.service key = none → drop s.hunts .notFound)
      ∧ ∀ v, s.service key = some v →
        ((∃ i b, (s.slot i).binding = some b ∧ b.key = key) → drop s.hunts .inUse)
        ∧ ((∀ i b, (s.slot i).binding = some b → b.key ≠ key) →
          let cut : State := { s.hunts with bindings := s.bindings.filter fun b => decide (b.key ≠ key) }
          let freed : State := v.cands.foldl (fun u c => u.freeCandidate c.name) cut
          ∃ t, t = { freed with services := Store.del freed.services key } ∧ drop t .ok
            ∧ t.service key = none ∧ t.bindings = (s.bindings.filter fun b => decide (b.key ≠ key))
            ∧ (∀ k, s.service k = none → t.service k = none) ∧ t.carriers = s.carriers ∧ t.paths = s.paths
            ∧ t.lists = s.lists ∧ t.shelves = s.shelves ∧ t.params = s.params ∧ t.replies = s.hunts.replies
            ∧ ∀ i, (t.slot i).binding = (s.slot i).binding))

/-- CONTENT_RESULT takes the path's oldest result; the taking as a command of its own is the model's choice (assumption
log 14). One without an announcement, or whose carrier was disabled at the hand-over, changes no carrier. Else, in one
step: where the carrier has another identity stored, its candidates are released, each freed where no slot refers to it
and else marked orphan and absent, and CARRIER_CHANGED is posted; the carrier becomes KNOWN with the announcement's
identity, version and truncated flag; the entries are filed in order; the carrier's other candidates that are no orphans
become absent, keeping their other flags, and their services are touched; and each service touched that still exists is
reported, in rising order of key (R9, R116, R117, R121).
An entry updates its candidate, or passes over an orphan. Without a candidate on the carrier it is filed under the service
that its alias or its FOUND origin names, or under a new FOUND service of the lowest free automatic key: with a new
candidate, or not at all in a full pool or table, with TABLE_FULL, or in a service of six, of whose candidates the lowest
ranked gives way where it is absent or LOST and unreferred, and else CANDIDATE_OVERFLOW is posted (R107, R109, R118, R119,
R120). That a candidate absent before touches no service, and the order of the reports, are the model's readings (logs 20
and 17). -/
def Obligations.ContentResultFilesAnnouncement : Prop :=
  (∀ (s : State) (p : Fin 8) (r : Result) (b : Bool) (rest : List Handed),
    (s.path p).outbox = ⟨r, b⟩ :: rest → r.cls = some .content →
    ((b = false ∨ r.announcement = none ∨ s.carrier r.carrier = none) →
      exec (.contentResult p) s
        = .next (((s.setPath p { s.path p with outbox := rest }).tryDetach p).runEngine))
    ∧ ∀ a x, b = true → r.announcement = some a → s.carrier r.carrier = some x →
      let c := r.carrier
      let other (old : Multiplex) : State := (s.releaseCandidates c).post .carrierChanged c
        (1 :: le16 old.network ++ le16 old.stream ++ le16 a.identity.network ++ le16 a.identity.stream)
      let compared : State × List Nat :=
        match x.content.identity with
        | none => (s, [])
        | some old => if old = a.identity then (s, []) else (other old, s.servicesOn c)
      let known := compared.1.setCarrier c { x with content := ⟨.known, some a.identity, some a.version, a.truncated⟩ }
      let filed := a.entries.foldl (fun v e => v.1.fileEntry a.identity.network c e v.2) (known, compared.2)
      -- the candidates on the carrier that become absent, and the services that list one of them
      let gone := filed.1.services.flatMap fun e => e.2.cands.filter fun y =>
        decide (y.name.carrier = c ∧ y.orphan = false ∧ y.absent = false
          ∧ ∀ e ∈ a.entries, e.serviceId ≠ y.name.serviceId)
      let owners := gone.filterMap fun y => (filed.1.candidate? y.name).map (·.1)
      let left := gone.foldl (fun v y => v.reviseCandidate y.name fun z => { z with absent := true }) filed.1
      let t := left.reportServices (owners.foldl (fun keys k => addKey k keys) filed.2) .content (some c)
      exec (.contentResult p) s
          = .next (((t.setPath p { t.path p with outbox := (t.path p).outbox.tail }).tryDetach p).runEngine)
        ∧ t.carrier c = some { x with content := ⟨.known, some a.identity, some a.version, a.truncated⟩ }
        ∧ (∀ d, d ≠ c → t.carrier d = s.carrier d) ∧ t.bindings = s.bindings ∧ t.replies = s.replies
        ∧ t.params = s.params ∧ t.planMemory = s.planMemory ∧ (∀ i, (t.slot i).binding = (s.slot i).binding))
  ∧ ∀ (s : State) (network c : Nat) (e : Announced) (touched : List Nat),
    let n : CandName := ⟨c, e.serviceId⟩
    let pair : Pair := ⟨network, e.serviceId⟩
    let made : Candidate := ⟨n, false, e.scrambled, e.running, false⟩
    let named (v : Service) : List Byte := if v.name = [] then e.name else v.name
    let file := s.fileEntry network c e touched
    s.poolSize = (s.services.map fun x => x.2.cands.length).sum
    ∧ (∀ key y, s.candidate? n = some (key, y) →
      (y.orphan = true → file = (s, touched))
      ∧ ∀ v, y.orphan = false → s.service key = some v →
        file
          = (s.setService key
              { v with
                kind := e.kind, name := named v
                cands := v.cands.map fun z =>
                  if z.name = n then { z with scrambled := e.scrambled, running := e.running, absent := false } else z },
            addKey key touched))
    ∧ (s.candidate? n = none →
      (∀ key v, (s.boundKey pair = some key ∨ s.boundKey pair = none ∧ s.foundKey pair = some key) →
        s.service key = some v → (∀ z ∈ v.cands, z.name ≠ n) →
        let under (u : State) (w : Service) : State :=
          u.setService key { w with kind := e.kind, name := named w, cands := insertBy Candidate.nameBefore made w.cands }
        (v.cands.length < 6 → s.poolSize < 1024 → file = (under s v, addKey key touched))
        ∧ (v.cands.length < 6 → 1024 ≤ s.poolSize →
          file = (s.post .tableFull c (0 :: le16 e.serviceId), touched))
        ∧ ∀ z, 6 ≤ v.cands.length → (s.rankOrder v.cands).getLast? = some z →
          ((z.absent = true ∨ ∃ y, s.carrier z.name.carrier = some y ∧ y.reception.state = .lost) →
            s.referred z.name = false → ∀ w, (s.freeCandidate z.name).service key = some w →
            (∀ y ∈ w.cands, y.name ≠ n) →
            file = (under (s.freeCandidate z.name) w, addKey key touched))
          ∧ ((s.referred z.name = true
              ∨ z.absent = false ∧ ∀ y, s.carrier z.name.carrier = some y → y.reception.state ≠ .lost) →
            file = (s.post .candidateOverflow key (0 :: byteOf c :: le16 e.serviceId), touched)))
      ∧ (s.boundKey pair = none → s.foundKey pair = none →
        (1024 ≤ s.poolSize → file = (s.post .tableFull c (0 :: le16 e.serviceId), touched))
        ∧ (s.poolSize < 1024 → 384 ≤ s.services.length →
          file = (s.post .tableFull c (1 :: le16 e.serviceId), touched))
        ∧ ∀ key, s.poolSize < 1024 → s.services.length < 384 → 0x8000 ≤ key → key < 0x8180 → s.service key = none →
          (∀ k, 0x8000 ≤ k → k < key → s.service k ≠ none) →
          ∃ u, file = (u, addKey key touched)
            ∧ u = { (s.post .serviceFound key (le16 network ++ le16 e.serviceId ++ [byteOf c])) with services := u.services }
            ∧ u.service key = some { pair := some pair, kind := e.kind, name := e.name, cands := [made] }
            ∧ ∀ k, k ≠ key → u.service k = s.service k))
    ∧ (∀ w : CandName,
      (s.referred w = true →
        s.releaseCandidate w = s.reviseCandidate w fun z => { z with orphan := true, absent := true })
      ∧ (s.referred w = false → s.releaseCandidate w = s.freeCandidate w)
      -- a candidate is revised in the service that lists it, and keeps what the revision does not change
      ∧ ∀ f,
        (s.candidate? w = none → s.reviseCandidate w f = s)
        ∧ ∀ key y v, s.candidate? w = some (key, y) → s.service key = some v →
          s.reviseCandidate w f
            = s.setService key { v with cands := v.cands.map fun z => if z.name = w then f z else z })
    ∧ (∀ w key y, s.candidate? w = some (key, y) → y.name = w ∧ ∃ v, (key, v) ∈ s.services ∧ y ∈ v.cands)
    ∧ (∀ w, s.candidate? w = none → ∀ k v, (k, v) ∈ s.services → ∀ y ∈ v.cands, y.name ≠ w)
    ∧ s.releaseCandidates c = (s.services.flatMap fun e => e.2.cands.filter fun y => decide (y.name.carrier = c)).foldl
        (fun v y => v.releaseCandidate y.name) s
    ∧ (∀ (keys : List Nat) cause at',
      s.reportServices keys cause at'
        = s.handReports ((keys.filter fun k => (s.service k).isSome).map fun k => s.rankReport k cause at' none))
    ∧ (∀ (k : Nat) (keys : List Nat), keys.Pairwise (· < ·) →
      (addKey k keys).Pairwise (· < ·) ∧ ∀ j, j ∈ addKey k keys ↔ j = k ∨ j ∈ keys)

/-! ## Slots -/

/-- SLOT_SET: a service that does not exist is NOT_FOUND, a SWITCHING slot BUSY, an output that another slot is bound to,
or whose CLEAR has not ended, IN_USE. Else the slot, whatever it was bound to, is bound as asked with its record cleared and
its last reason HOST, and no other slot's binding changes. Before all of this the first field out of its range gives
OUT_OF_RANGE with its number. Its active source is let go of: an orphan to which no slot now
refers is freed, and its service reported FREED. A FOUND service of another key that it was bound to is freed where that
leaves it empty and without a slot. Then the slot, in SEEKING, gives an INITIAL order for the candidate it chooses, if any
(R115, R133, R134, R146, R147). That the FREED report is taken after that evaluation is the model's reading (assumption log
17), and that it names the freed candidate's carrier its choice (log 40). -/
def Obligations.SlotSetBinds : Prop :=
  (∀ (s : State) (tag b0 k0 k1 b3 b4 b5 : Byte), s.takes = true →
    let key := k0.toNat + 256 * k1.toNat
    let range (n : Byte) : Prop :=
      exec (.slotSet tag [b0, k0, k1, b3, b4, b5]) s = .next (s.hunts.owe 0xC0 tag ⟨.outOfRange, [n]⟩)
    let keyOk := 1 ≤ key ∧ key ≤ 0x817F
    (64 ≤ b0.toNat → range 1)
    ∧ (b0.toNat < 64 → ¬ keyOk → range 2)
    ∧ (b0.toNat < 64 → keyOk → 4 ≤ b3.toNat → range 3)
    ∧ (b0.toNat < 64 → keyOk → b3.toNat < 4 → 16 ≤ b4.toNat → range 4)
    ∧ (b0.toNat < 64 → keyOk → b3.toNat < 4 → b4.toNat < 16 → 1 < b5.toNat → range 5))
  ∧ ∀ (s : State) (tag : Byte) (i : Fin 64) (key : Nat) (h : Fin 4) (o : Fin 16) (a : Bool), s.takes = true →
    1 ≤ key → key ≤ 0x817F →
    let x := s.slot i
    let out (t : State) (code : ResultCode) : Prop :=
      exec (.slotSet tag (byteOf i.1 :: le16 key ++ [byteOf h.1, byteOf o.1, flagByte a])) s
        = .next (t.owe 0xC0 tag ⟨code, []⟩)
    let y : Slot :=
      { binding := some ⟨key, h, o⟩, scrambledAllowed := a, state := .seeking, pinned := false, active := none
        target := x.target, challenger := none, wins := 0, holdEnd := none, bar := none, failures := 0
        lastReason := some .host, lastTag := none, lastTarget := none }
    (s.service key = none → out s.hunts .notFound)
    ∧ (s.service key ≠ none → x.state = .switching → out s.hunts .busy)
    ∧ (s.service key ≠ none → x.state ≠ .switching →
      ((∃ j b, j ≠ i ∧ (s.slot j).binding = some b ∧ b.shelf = h ∧ b.output = o) → out s.hunts .inUse)
      ∧ ((∃ q ∈ (s.shelf h).queue, q.output = o ∧ q.kind = .clear) → out s.hunts .inUse)
      ∧ ((∃ f, (s.shelf h).inFlight = some f ∧ f.order.output = o ∧ f.order.kind = .clear) → out s.hunts .inUse)
      ∧ (s.outputTaken i h o = true ↔ (∃ j b, j ≠ i ∧ (s.slot j).binding = some b ∧ b.shelf = h ∧ b.output = o)
        ∨ (∃ q ∈ (s.shelf h).queue, q.output = o ∧ q.kind = .clear)
        ∨ ∃ f, (s.shelf h).inFlight = some f ∧ f.order.output = o ∧ f.order.kind = .clear)
      ∧ (s.outputTaken i h o = false →
        (∃ t, out t .ok ∧ (t.slot i).binding = some ⟨key, h, o⟩
          ∧ (∀ j, j ≠ i → (t.slot j).binding = (s.slot j).binding) ∧ t.carriers = s.carriers
          ∧ t.bindings = s.bindings ∧ t.params = s.params ∧ t.replies = s.hunts.replies)
        ∧ (x.active = none → x.binding = none →
          (s.choice y = none → out (s.hunts.setSlot i y) .ok)
          ∧ ∀ n, s.choice y = some n → out ((s.hunts.setSlot i y).giveOrder i n .initial) .ok)
        ∧ (let u := (s.hunts.setSlot i y).lets x.active
          let v : State := match x.binding with
            | none => u.1
            | some b => if b.key = key then u.1 else u.1.dropEmpty b.key
          (v.choice y = none → out (v.handReports u.2) .ok)
          ∧ ∀ n, v.choice y = some n → out ((v.giveOrder i n .initial).handReports u.2) .ok)))
    -- a FOUND service without candidates to which no slot is bound is freed
    ∧ ∀ (u : State) (k : Nat) (z : Service), u.service k = some z →
      (z.pair ≠ none → z.cands = [] → (∀ j b, (u.slot j).binding = some b → b.key ≠ k) →
        u.dropEmpty k = { u with services := Store.del u.services k })
      ∧ ((z.pair = none ∨ z.cands ≠ [] ∨ ∃ j b, (u.slot j).binding = some b ∧ b.key = k) → u.dropEmpty k = u)

/-- SLOT_CLEAR: a slot above 63 is OUT_OF_RANGE, a SWITCHING slot BUSY, and a slot that is bound to nothing stays as it
is. Any other slot hands over a CLEAR for its output, which goes out at once on a shelf that is not OFFLINE and has nothing
in flight or queued, and else joins the end of the queue, whose head goes out where the shelf is not OFFLINE and has nothing
in flight. The slot takes the cold-start record with last reason HOST. Its active
source is let go of: an orphan to which no slot now refers is freed, and its service reported FREED. Its FOUND service is
freed where that leaves it empty and without a slot. Nothing else changes (R115, R146, R148, R157). That the FREED report
is taken last is the model's reading (assumption log 17), and that it names the freed candidate's carrier its choice (log
40). -/
def Obligations.SlotClearEmpties : Prop :=
  (∀ (s : State) (tag b : Byte), s.takes = true → 64 ≤ b.toNat →
    exec (.slotClear tag [b]) s = .next (s.hunts.owe 0xC1 tag ⟨.outOfRange, [1]⟩))
  ∧ ∀ (s : State) (tag : Byte) (i : Fin 64), s.takes = true →
    let x := s.slot i
    let out (t : State) (code : ResultCode) : Prop :=
      exec (.slotClear tag [byteOf i.1]) s = .next (t.owe 0xC1 tag ⟨code, []⟩)
    (x.state = .switching → out s.hunts .busy)
    ∧ (x.state ≠ .switching → x.binding = none → out s.hunts .ok)
    ∧ ∀ b, x.state ≠ .switching → x.binding = some b →
      (∃ t, out t .ok ∧ t.slot i = { Slot.cold with lastReason := some .host }
        ∧ (∀ j, j ≠ i → (t.slot j).binding = (s.slot j).binding) ∧ t.carriers = s.carriers
        ∧ t.bindings = s.bindings ∧ t.params = s.params ∧ t.replies = s.hunts.replies)
      ∧ (x.active = none →
        out ((((s.hunts.enqueue b.shelf b.output .clear).setSlot i
          { Slot.cold with lastReason := some .host }).dropEmpty b.key)) .ok)
      ∧ (let h := s.shelf b.shelf
        let order : Order := ⟨h.nextTag, b.output, .clear, false⟩
        let handed (y : Shelf) : Prop :=
          s.hunts.enqueue b.shelf b.output .clear = s.hunts.setShelf b.shelf { y with nextTag := h.nextTag + 1 }
        (h.state ≠ .offline → h.inFlight = none → h.queue = [] →
          handed { h with inFlight := some ⟨order, .awaitingAccept, none⟩ })
        ∧ (∀ o q, h.state ≠ .offline → h.inFlight = none → h.queue = o :: q →
          handed { h with queue := q ++ [order], inFlight := some ⟨o, .awaitingAccept, none⟩ })
        ∧ ((h.state = .offline ∨ h.inFlight ≠ none) → handed { h with queue := h.queue ++ [order] })
        ∧ (let u := ((s.hunts.enqueue b.shelf b.output .clear).setSlot i
              { Slot.cold with lastReason := some .host }).lets x.active
          out ((u.1.dropEmpty b.key).handReports u.2) .ok))

/-- SLOT_PIN of a candidate of the slot's service: the slot is pinned with its failures, challenger and wins cleared
and the candidate's bar lifted, and stands in HELD where the candidate is its active source, else it gives an order
with reason PIN. SLOT_UNPIN takes HELD to ON_AIR under a new hold-down, and SLOT_RESUME takes FAULT to ON_AIR or
SEEKING with its failures cleared, each with an evaluation; a pinned SWITCHING slot is unpinned only. Other slots are
NOT_FOUND, BUSY or WRONG_STATE; a slot above 63 is OUT_OF_RANGE, and a service id of 0 on field 3 (R149, R150, R151). -/
def Obligations.SlotPinning : Prop :=
  (∀ (s : State) (tag b c i0 i1 : Byte), s.takes = true →
    let range (n : Byte) : Prop :=
      exec (.slotPin tag [b, c, i0, i1]) s = .next (s.hunts.owe 0xC2 tag ⟨.outOfRange, [n]⟩)
    (64 ≤ b.toNat →
      range 1 ∧ exec (.slotUnpin tag [b]) s = .next (s.hunts.owe 0xC3 tag ⟨.outOfRange, [1]⟩)
        ∧ exec (.slotResume tag [b]) s = .next (s.hunts.owe 0xC4 tag ⟨.outOfRange, [1]⟩))
    ∧ (b.toNat < 64 → i0.toNat + 256 * i1.toNat = 0 → range 3))
  ∧ ∀ (s : State) (tag c : Byte) (i : Fin 64) (sid : Nat), s.takes = true → 1 ≤ sid → sid < 65536 →
    let x := s.slot i
    let n : CandName := ⟨c.toNat, sid⟩
    let pin (t : State) (code : ResultCode) : Prop :=
      exec (.slotPin tag (byteOf i.1 :: c :: le16 sid)) s = .next (t.owe 0xC2 tag ⟨code, []⟩)
    let unpin (t : State) (code : ResultCode) : Prop :=
      exec (.slotUnpin tag [byteOf i.1]) s = .next (t.owe 0xC3 tag ⟨code, []⟩)
    let resume (t : State) (code : ResultCode) : Prop :=
      exec (.slotResume tag [byteOf i.1]) s = .next (t.owe 0xC4 tag ⟨code, []⟩)
    let y : Slot :=
      { x with
        pinned := true, failures := 0, challenger := none, wins := 0
        bar := if x.bar.map (·.cand) = some n then none else x.bar }
    let u := s.hunts.setSlot i
      { x with failures := 0, state := if x.active.isSome = true then .onAir else .seeking }
    (∀ k, (s.candidateOf k n = none ↔ ∀ v, s.service k = some v → ∀ z ∈ v.cands, z.name ≠ n)
      ∧ ∀ z, s.candidateOf k n = some z → z.name = n ∧ ∃ v, s.service k = some v ∧ z ∈ v.cands)
    ∧ (x.binding = none → pin s.hunts .notFound)
    ∧ (∀ b, x.binding = some b →
      (s.candidateOf b.key n = none → pin s.hunts .notFound)
      ∧ (s.candidateOf b.key n ≠ none →
        (x.state = .switching → pin s.hunts .busy)
        ∧ (x.state ≠ .switching → x.active = some n → pin (s.hunts.setSlot i { y with state := .held }) .ok)
        ∧ (x.state ≠ .switching → x.active ≠ some n → pin ((s.hunts.setSlot i y).giveOrder i n .pin) .ok)))
    ∧ (x.state = .held →
      unpin (State.settleReports ((s.hunts.setSlot i
        { x with pinned := false, holdEnd := some s.holdDownEnd, state := .onAir }).evaluate i none)) .ok)
    ∧ (x.state = .switching → x.pinned = true → unpin (s.hunts.setSlot i { x with pinned := false }) .ok)
    ∧ (x.state ≠ .held → (x.state ≠ .switching ∨ x.pinned = false) → unpin s.hunts .wrongState)
    ∧ (x.state = .fault → resume (State.settleReports (u.evaluate i none)) .ok)
    ∧ (x.state = .fault → x.active = none → s.choice x = none → resume u .ok)
    ∧ (∀ m, x.state = .fault → x.active = none → s.choice x = some m → resume (u.giveOrder i m .initial) .ok)
    ∧ (x.state ≠ .fault → resume s.hunts .wrongState)

/-- The evaluation of a slot. In SEEKING it orders the candidate it chooses, if any. In ON_AIR a source that fails is
replaced by the chosen candidate with SLOT_FAILOVER, or leaves the slot SEEKING with SLOT_SEEKING, an orphan so let go of
being freed and its service reported FREED (R115; that the report names its carrier is the model's choice, assumption log
40); else the challenger
is found, the win count moves as Table 9-3 gives, a first scored win asks a CHALLENGER recheck, and enough wins after
the hold-down give an order with reason BETTER. In the other states nothing is decided. At the end of a hold-down or a
bar it is cleared and the slot is evaluated (R132 to R138, R140). What it reads: the rank groups (R110), the rank order by
its five keys (R111), when an active source fails and for which cause, what is usable for the slot (R131), the candidate it
chooses (R133) and the challenger it finds (R136). A ranking report carries the candidate list of its service in rank order,
each with its group (R111). It is taken by the slots bound to its service in ascending
order, each evaluated and then, still ON_AIR on the report's carrier, asking an URGENT recheck of it for a miss, a LOSS or
the ageing of a FRESH carrier (R111, R132, R139). Several reports are taken service by service in the order in which they are
made; that a FREED report which one of them brings follows those that stand is the model's reading (assumption log 17).
That the first scored win of a new challenger asks the recheck whatever the count was is its reading too (log 18), and that
a hold-down or bar end that is not reached changes nothing is its choice (log 7). -/
def Obligations.SlotEvaluation : Prop :=
  (∀ (s : State) (i : Fin 64) (ev : Option RankReport),
    let x := s.slot i
    (x.state ≠ .seeking → x.state ≠ .onAir → s.evaluate i ev = (s, []))
    ∧ (x.state = .seeking → s.choice x = none → s.evaluate i ev = (s, []))
    ∧ (∀ n, x.state = .seeking → s.choice x = some n → s.evaluate i ev = (s.giveOrder i n .initial, []))
    ∧ (∀ n b act, x.state = .onAir → x.active = some n → x.binding = some b → s.candidateOf b.key n = some act →
      (∀ cause, s.failureOf x act = some cause →
        (∀ m, s.choice x = some m →
          s.evaluate i ev
            = ((s.giveOrder i m .failover).post .slotFailover i.1
                (1 :: n.bytes ++ [byteOf cause.code] ++ m.bytes ++ [2]), []))
        ∧ (s.choice x = none →
          let u := (s.setSlot i { x with active := none, challenger := none, wins := 0, state := .seeking }).post
            .slotSeeking i.1 (n.bytes ++ [byteOf cause.code])
          s.evaluate i ev = u.lets (some n) ∧ (s.noOrphan n → s.evaluate i ev = (u, []))))
      ∧ (s.failureOf x act = none →
        (s.challengerFor x act.name = none →
          s.evaluate i ev = (s.setSlot i { x with challenger := none, wins := 0 }, []))
        ∧ ∀ ch, s.challengerFor x act.name = some ch →
          let same := x.challenger = some ch.name
          let win := s.ranksBefore ch act = true
            ∧ (s.standing act.name.carrier).getD 0 + s.params.margin ≤ (s.standing ch.name.carrier).getD 0
          let scored := ∃ r, ev = some r ∧ r.cause = .scored
            ∧ (r.carrier = some ch.name.carrier ∨ r.carrier = some act.name.carrier)
          let decided (count : Nat) (v : State) : Prop :=
            (s.params.winCount ≤ count → (∀ e, x.holdEnd = some e → reached s.clock e = true) →
              s.evaluate i ev = (v.giveOrder i ch.name .better, []))
            ∧ ((count < s.params.winCount ∨ ∃ e, x.holdEnd = some e ∧ reached s.clock e = false) →
              s.evaluate i ev = (v, []))
          let u (count : Nat) : State := s.setSlot i { x with challenger := some ch.name, wins := count }
          (¬ win → s.evaluate i ev = (u 0, []))
          ∧ (win → ¬ scored → same → decided x.wins (u x.wins))
          ∧ (win → ¬ scored → ¬ same → decided 0 (u 0))
          ∧ (win → scored → same → x.wins ≠ 0 → decided (min 15 (x.wins + 1)) (u (min 15 (x.wins + 1))))
          ∧ (win → scored → (¬ same ∨ x.wins = 0) →
            decided 1 ((u 1).requestRecheck ch.name.carrier .quality .routine .challenger))))
    ∧ (∀ e, x.holdEnd = some e →
      (reached s.clock e = true →
        exec (.holdDownEnd i) s
          = .next (State.settleReports ((s.setSlot i { x with holdEnd := none }).evaluate i none))
        ∧ (x.state ≠ .seeking → x.state ≠ .onAir →
          exec (.holdDownEnd i) s = .next (s.setSlot i { x with holdEnd := none })))
      ∧ (reached s.clock e = false → exec (.holdDownEnd i) s = .next s))
    ∧ ∀ b, x.bar = some b →
      (reached s.clock b.until' = true →
        exec (.barEnd i) s = .next (State.settleReports ((s.setSlot i { x with bar := none }).evaluate i none))
        ∧ (x.state ≠ .seeking → x.state ≠ .onAir → exec (.barEnd i) s = .next (s.setSlot i { x with bar := none })))
      ∧ (reached s.clock b.until' = false → exec (.barEnd i) s = .next s))
  ∧ (∀ (s : State) (c d : Candidate) (x : Slot),
    let standing (y : Candidate) : Option Nat := (s.carrier y.name.carrier).bind (·.reception.standing)
    let preference (y : Candidate) : Nat :=
      ((s.carrier y.name.carrier).map fun z => (s.feed z.plan.feed).preference).getD 0
    let higher (m n : Option Nat) : Prop := ∃ a, m = some a ∧ ∀ b, n = some b → b < a
    let fit := c.absent = false ∧ c.orphan = false ∧ c.running = true
    let on (p : Carrier → Prop) : Prop := ∃ z, s.carrier c.name.carrier = some z ∧ z.plan.enabled = true ∧ p z
    let ingroup (y : Candidate) : Nat := match s.group y with
      | .a => 0
      | .b => 1
      | .c => 2
    (s.group c = .a ↔ fit ∧ on fun z => z.reception.state = .fresh)
    ∧ (s.group c = .b ↔ fit ∧ on fun z => z.reception.state = .stale)
    ∧ (s.ranksBefore c d = true ↔
      ingroup c < ingroup d ∨ ingroup c = ingroup d
        ∧ (higher (standing c) (standing d) ∨ standing c = standing d
          ∧ (preference c < preference d ∨ preference c = preference d
            ∧ (c.name.carrier < d.name.carrier ∨ c.name.carrier = d.name.carrier
              ∧ c.name.serviceId < d.name.serviceId))))
    ∧ (s.failureOf x c = none ↔
      fit ∧ on fun z => z.reception.state ≠ .lost ∧ (c.scrambled = true → x.scrambledAllowed = true))
    ∧ (s.failureOf x c = some .absent ↔ c.absent = true)
    ∧ (s.failureOf x c = some .orphan ↔ c.absent = false ∧ c.orphan = true)
    ∧ (s.failureOf x c = some .notRunning ↔ c.absent = false ∧ c.orphan = false ∧ c.running = false)
    ∧ (s.failureOf x c = some .disabled ↔ fit ∧ ¬ on fun _ => True)
    ∧ (s.failureOf x c = some .lost ↔ fit ∧ on fun z => z.reception.state = .lost)
    ∧ (s.failureOf x c = some .scrambled ↔
      fit ∧ on fun z => z.reception.state ≠ .lost ∧ c.scrambled = true ∧ x.scrambledAllowed = false)
    ∧ (∀ l, (s.rankOrder l).Perm l ∧ (s.rankOrder l).Pairwise fun y z => s.ranksBefore z y = false)
    ∧ ∀ k cause at' r, s.rankReport k cause at' r
      = ⟨k, cause, at', r, (s.rankOrder (((s.service k).map (·.cands)).getD [])).map fun y => (y, s.group y)⟩)
  ∧ (∀ (s : State) (x : Slot) (b : SlotBinding) (v : Service), x.binding = some b → s.service b.key = some v →
    let usable (g : RankGroup) (c : Candidate) : Prop :=
      s.group c = g ∧ (∀ y, x.bar = some y → y.cand ≠ c.name) ∧ (c.scrambled = true → x.scrambledAllowed = true)
    let highest (fit : Candidate → Prop) (c : Candidate) : Prop :=
      c ∈ v.cands ∧ fit c ∧ ∀ d ∈ v.cands, fit d → d.name ≠ c.name → s.ranksBefore c d = true
    (∀ n, s.choice x = some n ↔
      (∃ c, c.name = n ∧ highest (usable .a) c)
      ∨ (∀ d ∈ v.cands, ¬ usable .a d) ∧ ∃ c, c.name = n ∧ highest (usable .b) c)
    ∧ (s.choice x = none ↔ ∀ d ∈ v.cands, ¬ usable .a d ∧ ¬ usable .b d)
    ∧ ∀ active,
      (∀ c, s.challengerFor x active = some c → highest (fun d => d.name ≠ active ∧ usable .a d) c)
      ∧ (s.challengerFor x active = none ↔ ∀ d ∈ v.cands, ¬ (d.name ≠ active ∧ usable .a d)))
  ∧ ∀ (s : State) (i : Fin 64) (r : RankReport),
    (∀ n, (s.slot i).state = .onAir → (s.slot i).active = some n → r.carrier = some n.carrier →
      let asks (why : RecheckReason) : Prop := s.watch i r = s.requestRecheck n.carrier .quality .urgent why
      let aged := ∃ y, r.reception = some y ∧ y.stateBefore = .fresh ∧ y.stateAfter = .stale
      (r.cause = .noLockMiss → asks .activeMiss)
      ∧ (r.cause = .shelfLoss → asks .shelfLoss)
      ∧ ((r.cause = .aged ∨ r.cause = .restarted) → aged → asks .activeStale)
      ∧ ((r.cause = .aged ∨ r.cause = .restarted) → ¬ aged → s.watch i r = s)
      ∧ (r.cause ≠ .noLockMiss → r.cause ≠ .shelfLoss → r.cause ≠ .aged → r.cause ≠ .restarted → s.watch i r = s))
    ∧ (((s.slot i).state ≠ .onAir ∨ ∀ n, (s.slot i).active = some n → r.carrier ≠ some n.carrier) → s.watch i r = s)
    ∧ ((s.boundSlots r.key).Pairwise (· < ·)
      ∧ (i ∈ s.boundSlots r.key ↔ ∃ b, (s.slot i).binding = some b ∧ b.key = r.key))
    ∧ s.takeReport r [] = (s, [])
    ∧ (∀ l,
      let e := s.evaluate i (some r)
      let t := (e.1.watch i r).takeReport r l
      s.takeReport r (i :: l) = (t.1, e.2 ++ t.2))
    ∧ ((s.takeReport r (s.boundSlots r.key)).2 = [] →
      s.handReports [r] = (s.takeReport r (s.boundSlots r.key)).1)
    -- several reports: each is taken whole before the next, and those it brings follow those that stand
    ∧ s.handReports [] = s
    ∧ (Store.wf s.services = true → ∀ rest,
      let t := s.takeReport r (s.boundSlots r.key)
      s.handReports (r :: rest) = t.1.handReports (rest ++ t.2))
    ∧ ∀ e : State × List RankReport, State.settleReports e = e.1.handReports e.2

/-! ## The shelves -/

/-- A route order for a candidate: the slot is SWITCHING to it, with the shelf's next tag as its last tag, and the SET
with the carrier's plan fields goes out at once on a shelf that is not OFFLINE and has nothing in flight or queued. Else
it joins the end of the queue, whose head goes out where the shelf is not OFFLINE and has nothing in flight. The frame on
the Shelf Line is the layout of Table 13-1 with the order's kind, its tag, and the body of Table 13-10, in which an absent
setting is 0xFF. ORDER_SENT starts the accept timer of 250 ms, once, and the frame is then off the line (R134, R156, R158,
R197). That the line carries the frame of the order in flight alone, so that one whose order leaves flight while it is being
written, or is accepted before it has been sent, is dropped, and that ORDER_SENT counts for the order in flight, is the
model's choice (assumption log 47). -/
def Obligations.OrderHandedAndSent : Prop :=
  ∀ (s : State) (i : Fin 64) (n : CandName) (r : OrderReason) (b : SlotBinding) (c : Carrier) (h : Fin 4),
    ((s.slot i).binding = some b → s.carrier n.carrier = some c →
      let x := s.shelf b.shelf
      let order : Order :=
        ⟨x.nextTag, b.output,
          .set i ⟨c.plan.feed, c.plan.frequency, c.plan.setting, c.plan.rate, c.plan.modulation, n.serviceId⟩, false⟩
      let switched := s.setSlot i
        { s.slot i with
          target := some n, lastReason := some r, challenger := none, wins := 0, state := .switching
          lastTag := some x.nextTag, lastTarget := some n }
      let y : Shelf :=
        { x with nextTag := x.nextTag + 1, lastOrdering := x.lastOrdering.set b.output.1 (some i) }
      (x.state ≠ .offline → x.inFlight = none → x.queue = [] →
        s.giveOrder i n r = switched.setShelf b.shelf { y with inFlight := some ⟨order, .awaitingAccept, none⟩ })
      ∧ (∀ o q, x.state ≠ .offline → x.inFlight = none → x.queue = o :: q →
        s.giveOrder i n r
          = switched.setShelf b.shelf { y with queue := q ++ [order], inFlight := some ⟨o, .awaitingAccept, none⟩ })
      ∧ ((x.state = .offline ∨ x.inFlight ≠ none) →
        s.giveOrder i n r = switched.setShelf b.shelf { y with queue := x.queue ++ [order] }))
    ∧ (∀ f, (s.shelf h).inFlight = some f →
      (f.stage = .awaitingAccept → f.timerEnd = none →
        exec (.orderSent h) s
          = .next (s.setShelf h { s.shelf h with inFlight := some { f with timerEnd := some (s.clock + 250) } }))
      ∧ ((f.stage = .awaitingDone ∨ f.timerEnd ≠ none) → exec (.orderSent h) s = .next s))
    ∧ ((s.shelf h).inFlight = none → exec (.orderSent h) s = .next s)
    ∧ (∀ f, (s.shelf h).inFlight = some f →
      let kind : Byte := if f.order.kind = .clear then 2 else 1
      let body : List Byte :=
        match f.order.kind with
        | .clear => [byteOf f.order.output.1]
        | .set _ g =>
          byteOf f.order.output.1 :: byteOf g.feed.1 :: le32 g.frequency
            ++ (match g.setting with
              | none => [0xFF, 0xFF]
              | some x => [byteOf x.band.code, byteOf x.pol.code])
            ++ le16 g.rate ++ byteOf g.modulation.code :: le16 g.serviceId
      let covered := le16 body.length ++ kind :: f.order.tag :: body
      s.shelfLine h
        = if f.stage = .awaitingAccept ∧ f.timerEnd = none then some (0xA5 :: covered ++ checkBytes covered) else none)

/-- ACCEPT: with the tag of the order in flight that awaits it, the order awaits its DONE and the done timer of 4000 ms
runs; a repeat leaves the done timer as it is; a stale one finds nothing. Each counts as a valid reply (R159). -/
def Obligations.AcceptIsTaken : Prop :=
  ∀ (s : State) (h : Fin 4) (tag : Byte),
    let x := s.shelf h
    (∀ f, x.inFlight = some f → f.order.tag = tag →
      (f.stage = .awaitingAccept →
        exec (.accept h tag) s
          = .next (s.setShelf h
              { x.heard with inFlight := some { f with stage := .awaitingDone, timerEnd := some (s.clock + 4000) } }))
      ∧ (f.stage = .awaitingDone → exec (.accept h tag) s = .next (s.setShelf h x.heard)))
    ∧ (∀ f, x.inFlight = some f → f.order.tag ≠ tag → exec (.accept h tag) s = .next (s.setShelf h x.heard))
    ∧ (x.inFlight = none → exec (.accept h tag) s = .next (s.setShelf h x.heard))

/-- READY, in every state of the shelf: the shelf is ONLINE with its timeout count 0 and the order in flight back at the
head of its queue, where a DONE of the shelf's finds it until it has been sent again (beside DONE, assumption log 48), and
SHELF_READY tells the state before and the orders queued. Each of its slots in ON_AIR or HELD gives, in slot order, a
RESYNC order for its own active source, with the shelf's next tags in turn, behind the orders queued; and the head of the
queue is in flight (R145, R156, R158, R165). -/
def Obligations.ReadyResynchronises : Prop :=
  ∀ (s : State) (h : Fin 4),
    let x := s.shelf h
    let q := match x.inFlight with
      | some f => { f.order with putBack := true } :: x.queue
      | none => x.queue
    let y : Shelf :=
      { x with input := .hunting, state := .online, timeouts := 0, inFlight := none, queue := q }
    let mine (i : Fin 64) : Bool := decide ((s.slot i).binding.map (·.shelf) = some h
      ∧ ((s.slot i).state = .onAir ∨ (s.slot i).state = .held))
    let told := (s.setShelf h y).post .shelfReady h.1 [byteOf x.state.code, byteOf q.length]
    let given := allSlots.foldl (fun v i =>
      match mine i, (s.slot i).active with
      | true, some n => v.giveOrder i n .resync
      | _, _ => v) told
    let sets : List (Fin 64 × Fin 16 × Routing) := allSlots.filterMap fun i =>
      match mine i, (s.slot i).binding, (s.slot i).active with
      | true, some b, some n => (s.carrier n.carrier).map fun c =>
        (i, b.output, ⟨c.plan.feed, c.plan.frequency, c.plan.setting, c.plan.rate, c.plan.modulation, n.serviceId⟩)
      | _, _, _ => none
    let orders : List Order := (sets.zip (List.range sets.length)).map fun e =>
      ⟨x.nextTag + BitVec.ofNat 8 e.2, e.1.2.1, .set e.1.1 e.1.2.2, false⟩
    (∃ t, exec (.ready h) s = .next t
      ∧ t = given.setShelf h (if sets = [] then (given.shelf h).sendsNext else given.shelf h)
      ∧ LineupFrame (s.setShelf h y) t
      ∧ (t.shelf h).state = .online ∧ (t.shelf h).nextTag = x.nextTag + BitVec.ofNat 8 sets.length
      ∧ (t.shelf h).inFlight = (q ++ orders).head?.map (fun o => ⟨o, .awaitingAccept, none⟩)
      ∧ (t.shelf h).queue = (q ++ orders).tail
      ∧ (∀ k, k ≠ h → t.shelf k = s.shelf k)
      ∧ (∀ i n, mine i = true → (s.slot i).active = some n →
        (t.slot i).state = .switching ∧ (t.slot i).target = some n ∧ (t.slot i).active = some n
          ∧ (t.slot i).lastReason = some .resync)
      ∧ ∀ i, mine i = false → t.slot i = s.slot i)
    ∧ ((∀ i, mine i = false) →
      exec (.ready h) s
        = .next ((s.post .shelfReady h.1 [byteOf x.state.code, byteOf q.length]).setShelf h y.sendsNext))

/-- DONE. It ends the order in flight that it matches in tag and output, but for one that a READY has put back and whose
frame has not gone out again, which it finds queued still (R165; the model's reading, assumption log 48): a CLEAR frees
its output, and a SET puts its target on air in its slot, in HELD where the slot is pinned, with its hold-down begun,
SLOT_SWITCHED or SLOT_FAILOVER posted and an evaluation; an active source that it replaces is let go of, and an orphan so
left is freed and its service reported; then the next order is sent. One that matches nothing is late, for the slot on its
output or, where there is none, a VACANT last ordering slot: a slot that has not ordered since believes it, and one that
has, or is VACANT, is only told with ROUTE_LATE; with no such slot it is discarded. An output that no shelf has, in a
DONE, a REJECT or a LOSS, makes a frame that is discarded. The order of the reports is the model's reading (assumption log
17), and that a hold-down of 0 stands until a HOLD_DOWN_END of its own (log 37) and that a FREED report names the freed
candidate's carrier (log 40) are its choices (R115, R141, R143, R146, R154, R160, R163, R165, R166). -/
def Obligations.DoneIsTaken : Prop :=
  ∀ (s : State) (h : Fin 4) (tag : Byte) (o : Fin 16),
    let x := s.shelf h
    let on (i : Fin 64) : Prop := ∃ b, (s.slot i).binding = some b ∧ b.shelf = h ∧ b.output = o
    -- READY has put the order back, and its frame has not gone out again
    let waits (f : Flight) : Prop := f.order.putBack = true ∧ f.stage = .awaitingAccept ∧ f.timerEnd = none
    (s.slotOn h o = none ↔ ∀ i, ¬ on i)
    ∧ (∀ i, s.slotOn h o = some i ↔ on i ∧ ∀ j, j < i → ¬ on j)
    ∧ (∀ f, x.inFlight = some f → f.order.tag = tag → f.order.output = o → ¬ waits f →
      (f.order.kind = .clear →
        exec (.done h tag (byteOf o.1)) s = .next (s.setShelf h x.heard.sendsNext))
      ∧ ∀ i g, f.order.kind = .set i g →
        exec (.done h tag (byteOf o.1)) s
          = .next (((s.setShelf h { x.heard with inFlight := none }).routeDone i).send h))
    ∧ (∀ i n, (s.slot i).target = some n →
      let z := s.slot i
      let u := (s.setSlot i
        { z with
          active := some n, target := none, holdEnd := some s.holdDownEnd, wins := 0, failures := 0
          state := if z.pinned = true then .held else .onAir }).lets (if z.active = some n then none else z.active)
      let w := u.1.post
        (if z.lastReason = some .failover then .slotFailover else .slotSwitched) i.1
        (if z.lastReason = some .failover then [0, 0, 0, 0, 0xFF] ++ n.bytes ++ [2]
          else n.bytes ++ [byteOr (z.lastReason.map (·.code))])
      (z.pinned = true → s.routeDone i = w.handReports u.2)
      ∧ (z.pinned = false → s.routeDone i = (w.evaluate i none).1.handReports (u.2 ++ (w.evaluate i none).2))
      ∧ ((∀ a, z.active = some a → a = n ∨ s.noOrphan a) → u.2 = []
          ∧ (z.pinned = true → s.routeDone i = w)))
    ∧ ((∀ f, x.inFlight = some f → f.order.tag ≠ tag ∨ f.order.output ≠ o ∨ waits f) →
      let told (i : Fin 64) : Prop :=
        exec (.done h tag (byteOf o.1)) s = .next ((s.setShelf h x.heard).post .routeLate i.1 [0, tag, 0, 0, 0])
      (s.slotOn h o = none →
        ((x.lastOrdering[o.1] = none ∨ ∃ i, x.lastOrdering[o.1] = some i ∧ (s.slot i).state ≠ .vacant) →
          exec (.done h tag (byteOf o.1)) s = .next (s.setShelf h x.heard))
        ∧ ∀ i, x.lastOrdering[o.1] = some i → (s.slot i).state = .vacant → told i)
      ∧ ∀ i, s.slotOn h o = some i →
        let z := s.slot i
        ((z.state = .switching ∨ z.state = .vacant ∨ z.lastTag ≠ some tag ∨ z.lastTarget = none) → told i)
        ∧ ∀ n, z.state ≠ .switching → z.state ≠ .vacant → z.lastTag = some tag → z.lastTarget = some n →
          let u := ((s.setShelf h x.heard).setSlot i
            { z with
              active := some n, bar := none, holdEnd := some s.holdDownEnd, wins := 0, failures := 0
              lastTarget := none
              state := if z.pinned = true then .held else .onAir }).lets (if z.active = some n then none else z.active)
          let w := u.1.post .routeLate i.1 (1 :: tag :: n.bytes)
          (z.pinned = true → exec (.done h tag (byteOf o.1)) s = .next (w.handReports u.2))
          ∧ (z.pinned = false →
            exec (.done h tag (byteOf o.1)) s
              = .next ((w.evaluate i none).1.handReports (u.2 ++ (w.evaluate i none).2)))
          ∧ ((∀ a, z.active = some a → a = n ∨ s.noOrphan a) → u.2 = []
            ∧ (z.pinned = true → exec (.done h tag (byteOf o.1)) s = .next w)))
    ∧ ∀ (w reason : Byte), 16 ≤ w.toNat →
      exec (.done h tag w) s = .next (s.setShelf h { x with input := .hunting })
      ∧ exec (.reject h tag w reason) s = .next (s.setShelf h { x with input := .hunting })
      ∧ exec (.loss h w) s = .next (s.setShelf h { x with input := .hunting })

/-- REJECT and the timer ends of the order in flight: the order ends, a timeout raises the shelf's count, and the third
in a row makes it OFFLINE with SHELF_OFFLINE. A SET's slot bars its target for the hold-down; at its second failure it
is in FAULT, unpinned, with SLOT_FAULT; the target is let go of, and an orphan so left is freed and its service reported
FREED after the slot has been evaluated (R115, R142); the next order is then sent. A stale REJECT finds nothing, and one of a
reason that is 0 or above 15 is discarded (R142, R154, R158, R161, R162, R163). That the FREED report is taken after the
evaluation is the model's reading (assumption log 17), and that it names the freed candidate's carrier its choice (log
40). That a timer end that is not reached finds nothing is the model's choice (assumption log 7), and so is that a bar of
0 stands until a BAR_END of its own (log 37). -/
def Obligations.RejectAndTimeouts : Prop :=
  (∀ (s : State) (h : Fin 4) (tag o w : Byte), (w = 0 ∨ 15 < w.toNat) →
    exec (.reject h tag o w) s = .next (s.setShelf h { s.shelf h with input := .hunting }))
  ∧ ∀ (s : State) (h : Fin 4) (tag : Byte) (o : Fin 16) (reason : Fin 16), reason.1 ≠ 0 →
    let x := s.shelf h
    let reject (t : State) : Prop := exec (.reject h tag (byteOf o.1) (byteOf reason.1)) s = .next t
    (∀ f, x.inFlight = some f → f.order.tag = tag → f.order.output = o →
      (f.order.kind = .clear → reject (s.setShelf h x.heard.sendsNext))
      ∧ ∀ i g, f.order.kind = .set i g →
        reject (((s.setShelf h { x.heard with inFlight := none }).routeFails i (.reject reason.1)).send h))
    ∧ ((∀ f, x.inFlight = some f → f.order.tag ≠ tag ∨ f.order.output ≠ o) → reject (s.setShelf h x.heard))
    ∧ (∀ f e, x.inFlight = some f → f.timerEnd = some e →
      let c : Instr := match f.stage with
        | .awaitingAccept => .acceptTimerEnd h
        | .awaitingDone => .doneTimerEnd h
      let y : Shelf := { x with inFlight := none, timeouts := min 3 (x.timeouts + 1) }
      let off := (s.setShelf h { y with state := .offline }).post .shelfOffline h.1
        [f.order.tag, if f.order.kind = .clear then 1 else 0, byteOf f.order.output.1
        , if f.stage = .awaitingAccept then 0 else 1]
      (reached s.clock e = false → exec c s = .next s)
      ∧ (reached s.clock e = true →
        (f.order.kind = .clear → x.timeouts < 2 → exec c s = .next (s.setShelf h y.sendsNext))
        ∧ (f.order.kind = .clear → 2 ≤ x.timeouts → exec c s = .next off)
        ∧ ∀ i g, f.order.kind = .set i g →
          (x.timeouts < 2 → exec c s = .next (((s.setShelf h y).routeFails i .timeout).send h))
          ∧ (2 ≤ x.timeouts → exec c s = .next ((off.routeFails i .timeout).send h))))
    ∧ (∀ k : Fin 16, (RouteFailure.reject k.1).bytes = [0, byteOf k.1] ∧ RouteFailure.timeout.bytes = [1, 0xFF])
    ∧ (∀ i n (w : RouteFailure), (s.slot i).target = some n →
      let z := s.slot i
      let u := (s.setSlot i { z with target := none, bar := some ⟨n, s.holdDownEnd⟩ }).lets (some n)
      -- the slot as what it let go of has left it: a bar on a freed candidate is lifted
      let y := u.1.slot i
      (1 ≤ z.failures →
        s.routeFails i w
          = ((u.1.setSlot i { y with failures := 2, state := .fault, pinned := false }).post .slotFault i.1
              (n.bytes ++ w.bytes ++ [byteOr (z.lastReason.map (·.code))])).handReports u.2)
      ∧ (z.failures = 0 → z.pinned = true → z.active ≠ none →
        s.routeFails i w = (u.1.setSlot i { y with failures := 1, state := .held }).handReports u.2)
      ∧ (z.failures = 0 → (z.pinned = false ∨ z.active = none) →
        let e := (u.1.setSlot i
          { y with
            failures := 1, pinned := false
            state := if z.active.isSome = true then .onAir else .seeking }).evaluate i none
        s.routeFails i w = e.1.handReports (u.2 ++ e.2)))
    ∧ ∀ i n (w : RouteFailure), (s.slot i).target = some n → s.noOrphan n →
      let z := s.slot i
      let y : Slot := { z with target := none, bar := some ⟨n, s.holdDownEnd⟩ }
      (1 ≤ z.failures →
        s.routeFails i w
          = (s.setSlot i { y with failures := 2, state := .fault, pinned := false }).post .slotFault i.1
              (n.bytes ++ w.bytes ++ [byteOr (z.lastReason.map (·.code))]))
      ∧ (z.failures = 0 → z.pinned = true → z.active ≠ none →
        s.routeFails i w = s.setSlot i { y with failures := 1, state := .held })
      ∧ (z.failures = 0 → (z.pinned = false ∨ z.active = none) →
        s.routeFails i w
          = State.settleReports ((s.setSlot i
              { y with
                failures := 1, pinned := false
                state := if z.active.isSome = true then .onAir else .seeking }).evaluate i none))

/-! ## Reception -/

/-- A miss: the carrier's miss count rises by 1 and holds at 15, and at the miss limit the carrier is LOST with its
stale timer cancelled and the rest kept, with CARRIER_LOST carrying the count, the standing and the cause. The carrier is
then reported, whatever changed, to each service with a candidate on it (R103, R112). NO_LOCK_MISS takes the path's oldest
QUALITY or LEVEL result of outcome NO_LOCK, with the level average of its record, unless its carrier was disabled at the
hand-over; LOSS counts the miss on the active source of the slot on its output, and finds nothing where there is none (R9,
R98, R100, R103, R112, R144, R167). That a command takes the path's oldest result, which has no effect where its carrier
is no longer used, is the model's choice (assumption log 14). -/
def Obligations.MissesAreCounted : Prop :=
  ∀ (s : State) (p : Fin 8) (r : Result) (b : Bool) (rest : List Handed) (h : Fin 4) (o : Fin 16),
    let missed (c : Carrier) (level : Option Nat) : Carrier :=
      let n := min 15 (c.reception.misses + 1)
      { c with
        reception := { c.reception with
          misses := n
          levelAvg := if level.isSome = true then level else c.reception.levelAvg
          state := if s.params.missLimit ≤ n then .lost else c.reception.state
          staleEnd := if s.params.missLimit ≤ n ∧ c.reception.state ≠ .lost then none else c.reception.staleEnd } }
    let told (u : State) (i : Nat) (c : Carrier) (level : Option Nat) (cause : RankCause) (code : Byte) : State :=
      let d := missed c level
      let v := u.setCarrier i d
      let v :=
        if d.reception.state = .lost ∧ c.reception.state ≠ .lost then
          v.post .carrierLost i (byteOf d.reception.misses :: le16 (c.reception.standing.getD 0xFFFF) ++ [code])
        else v
      v.handReports ((v.servicesOn i).map fun k => v.rankReport k cause (some i)
        (some
          { carrier := i, cause := cause, stateBefore := c.reception.state, standingBefore := c.reception.standing
            stateAfter := d.reception.state, standingAfter := c.reception.standing, missesAfter := d.reception.misses }))
    ((s.path p).outbox = ⟨r, b⟩ :: rest → (r.cls = some .quality ∨ r.cls = some .level) → r.outcome = .noLock →
      ((b = false ∨ s.carrier r.carrier = none) →
        exec (.noLockMiss p) s
          = .next (((s.setPath p { s.path p with outbox := rest }).tryDetach p).runEngine))
      ∧ ∀ c, b = true → s.carrier r.carrier = some c → ∃ t,
        exec (.noLockMiss p) s = .next t
        ∧ (let u := told s r.carrier c r.levelAvg .noLockMiss 0
          t = ((u.setPath p { u.path p with outbox := (u.path p).outbox.tail }).tryDetach p).runEngine)
        ∧ t.carrier r.carrier = some (missed c r.levelAvg)
        ∧ (∀ d, d ≠ r.carrier → t.carrier d = s.carrier d) ∧ t.bindings = s.bindings ∧ t.replies = s.replies
        ∧ t.params = s.params ∧ t.planMemory = s.planMemory ∧ ∀ i, (t.slot i).binding = (s.slot i).binding)
    ∧ ((s.slotOn h o = none ∨ ∃ i, s.slotOn h o = some i ∧ (s.slot i).active = none) →
      exec (.loss h (byteOf o.1)) s = .next (s.setShelf h (s.shelf h).heard))
    ∧ ∀ i n c, s.slotOn h o = some i → (s.slot i).active = some n → s.carrier n.carrier = some c → ∃ t,
      exec (.loss h (byteOf o.1)) s = .next t
      ∧ t = told (s.setShelf h (s.shelf h).heard) n.carrier c none .shelfLoss 1
      ∧ LineupFrame ((s.setShelf h (s.shelf h).heard).setCarrier n.carrier (missed c none)) t

/-- SCORED_RESULT takes the path's oldest COMPLETE or PARTIAL QUALITY result: the score of Table 7-5, the standing moved
toward it by the smoothing factor, half of it and at least 1 for a PARTIAL result, and the other reception fields; the
carrier is FRESH under a new stale timer, and is reported SCORED to each service with a candidate on it. A seen version
that differs from a KNOWN carrier's then makes it CHANGED, with CARRIER_CHANGED of reason VERSION; one that differs from a
KNOWN or CHANGED carrier's asks a ROUTINE CONTENT recheck. A result whose carrier was disabled at the hand-over changes no
carrier (R9, R67, R95, R96, R97, R103, R112). That a command takes the
path's oldest result, which has no effect where its carrier is no longer used, is the model's choice (assumption log
14). -/
def Obligations.ScoredResultMovesStanding : Prop :=
  ∀ (s : State) (p : Fin 8) (r : Result) (b : Bool) (rest : List Handed),
    (s.path p).outbox = ⟨r, b⟩ :: rest → r.cls = some .quality →
    (r.outcome = .complete ∨ r.outcome = .partialWindow) →
    ((b = false ∨ s.carrier r.carrier = none) →
      exec (.scoredResult p) s
        = .next (((s.setPath p { s.path p with outbox := rest }).tryDetach p).runEngine))
    ∧ ∀ x, b = true → s.carrier r.carrier = some x →
      let req := s.params.requiredMer[x.plan.modulation.code]'(by cases x.plan.modulation <;> decide)
      let win := match (s.feed x.plan.feed).kind with
        | .satellite => s.params.windowSatellite
        | .cable => s.params.windowCable
        | .terrestrial => s.params.windowTerrestrial
        | .noKind => s.params.levelWindow .noKind
      let margin := min 200 (r.merSum / r.locked - req)
      let level := r.levelSum / r.counted
      let term :=
        if level < win.lmin then 200 - 10 * (win.lmin - level)
        else if win.lmax < level then 200 - 10 * (level - win.lmax)
        else 200
      let score := (4 * margin + term - min 600 (25 * r.erroredSum)) * r.locked / r.counted
      let f := if r.outcome = .partialWindow then max 1 (s.params.smoothing / 2) else s.params.smoothing
      let step (d : Nat) : Nat := if d = 0 then 0 else max 1 ((d * f + 8) / 16)
      let standing := match x.reception.standing with
        | none => score
        | some old => if old ≤ score then old + step (score - old) else old - step (old - score)
      let scored : Reception :=
        { state := .fresh, standing := some standing, lastScore := some score, scoredAt := some r.stamp
          samples := min 255 (x.reception.samples + 1), misses := 0, levelAvg := some level
          merAvg := some (r.merSum / r.locked)
          staleEnd := some (r.stamp + BitVec.ofNat 32 (1000 * s.params.staleLimit)) }
      let seen := r.observation ≠ none ∧ x.content.version ≠ r.observation
      let u := s.setCarrier r.carrier { x with reception := scored }
      let told := u.handReports ((u.servicesOn r.carrier).map fun k => u.rankReport k .scored (some r.carrier)
        (some
          { carrier := r.carrier, cause := .scored, stateBefore := x.reception.state
            standingBefore := x.reception.standing, stateAfter := .fresh, standingAfter := some standing
            missesAfter := 0 }))
      let asked (v : State) : State := v.requestRecheck r.carrier .content .routine .versionChange
      let watched :=
        if x.content.state = .known ∧ seen then
          asked ((told.setCarrier r.carrier
            { x with reception := scored, content := { x.content with state := .changed } }).post .carrierChanged
              r.carrier [0])
        else if x.content.state = .changed ∧ seen then asked told
        else told
      ∃ t, exec (.scoredResult p) s = .next t
      ∧ t = ((watched.setPath p { watched.path p with outbox := (watched.path p).outbox.tail }).tryDetach p).runEngine
      ∧ t.carrier r.carrier = some
          { x with
            reception :=
              { state := .fresh, standing := some standing, lastScore := some score, scoredAt := some r.stamp
                samples := min 255 (x.reception.samples + 1), misses := 0, levelAvg := some level
                merAvg := some (r.merSum / r.locked)
                staleEnd := some (r.stamp + BitVec.ofNat 32 (1000 * s.params.staleLimit)) }
            content := { x.content with
              state :=
                if x.content.state = .known ∧ r.observation ≠ none ∧ x.content.version ≠ r.observation then .changed
                else x.content.state } }
      ∧ (∀ d, d ≠ r.carrier → t.carrier d = s.carrier d) ∧ t.bindings = s.bindings ∧ t.replies = s.replies
      ∧ t.params = s.params ∧ t.planMemory = s.planMemory ∧ ∀ i, (t.slot i).binding = (s.slot i).binding

/-- LEVEL_RESULT takes the path's oldest COMPLETE or PARTIAL LEVEL result: the miss count returns to 0, the level
average is taken, and nothing else of the carrier changes; a LEVEL result is not reported; that a command takes the path's
oldest result, which has no effect where its carrier is no longer used, is the model's choice (assumption log 14).
STALE_TIMER_END makes a FRESH carrier whose timer is reached STALE, keeping its other fields, and reports it AGED to each
service with a candidate on it (R9, R99, R101, R103, R112); that it finds nothing elsewhere is the model's choice (log 7). -/
def Obligations.LevelResultAndAgeing : Prop :=
  ∀ (s : State) (p : Fin 8) (r : Result) (b : Bool) (rest : List Handed) (c : Byte),
    ((s.path p).outbox = ⟨r, b⟩ :: rest → r.cls = some .level →
      (r.outcome = .complete ∨ r.outcome = .partialWindow) →
      ((b = false ∨ s.carrier r.carrier = none) →
        exec (.levelResult p) s
          = .next (((s.setPath p { s.path p with outbox := rest }).tryDetach p).runEngine))
      ∧ ∀ x v, b = true → s.carrier r.carrier = some x → r.levelAvg = some v →
        exec (.levelResult p) s
          = .next ((((s.setCarrier r.carrier
              { x with reception := { x.reception with misses := 0, levelAvg := some v } }).setPath p
                { s.path p with outbox := rest }).tryDetach p).runEngine))
    ∧ (∀ x e, s.carrier c.toNat = some x → x.reception.state = .fresh → x.reception.staleEnd = some e →
      reached s.clock e = true →
      let u := s.setCarrier c.toNat { x with reception := { x.reception with state := .stale, staleEnd := none } }
      ∃ t, exec (.staleTimerEnd c) s = .next t
        ∧ t = u.handReports ((u.servicesOn c.toNat).map fun k => u.rankReport k .aged (some c.toNat)
            (some
              { carrier := c.toNat, cause := .aged, stateBefore := .fresh, standingBefore := x.reception.standing
                stateAfter := .stale, standingAfter := x.reception.standing, missesAfter := x.reception.misses }))
        ∧ LineupFrame u t)
    ∧ (s.carrier c.toNat = none → exec (.staleTimerEnd c) s = .next s)
    ∧ ∀ x, s.carrier c.toNat = some x →
      (x.reception.state ≠ .fresh ∨ x.reception.staleEnd = none
        ∨ ∃ e, x.reception.staleEnd = some e ∧ reached s.clock e = false) →
      exec (.staleTimerEnd c) s = .next s

/-! ## Reads and notices -/

/-- The table reads return whole records from the first asked for, as they stand, and change nothing; a first record
outside the numbering is OUT_OF_RANGE on field 1 and a count of 0 on field 2. READ_STATUS clears the raw event summary
once its reply has been built; PARAM_GET returns the parameter set (R127, R184, R186).
The records, byte by byte from the offset at which each field of Tables 13-7 and 13-8 stands, and the parameter set, by
number, as Table 13-5 lays it out (R193, R195); the enumerations in the order of Table 13-9 and the results of Table 13-3,
numbered from 0. What they carry
of a list without a descriptor (assumption log 9), of an empty Recheck place (log 39) and of a shelf with nothing in flight
(log 26), and the bits of a slot's last target and last order tag (log 38), are the model's. -/
def Obligations.TableReads : Prop :=
  (∀ (s : State) (tag first k0 k1 count : Byte), s.takes = true →
    let reads (c : Instr) (kind : Byte) (records : List (List Byte)) : Prop :=
      ∃ content, readReturns count.toNat s.clock records content
        ∧ exec c s = .next (s.hunts.owe kind tag ⟨.ok, content⟩)
    let refused (c : Instr) (kind field : Byte) : Prop :=
      exec c s = .next (s.hunts.owe kind tag ⟨.outOfRange, [field]⟩)
    let from' := s.services.filter fun e => decide (k0.toNat + 256 * k1.toNat ≤ e.1)
    (count ≠ 0 →
      reads (.readCarriers tag [first, count]) 0xD0 (((List.range 256).drop first.toNat).map s.carrierRecord)
      ∧ (first.toNat < 6 →
        reads (.readFeeds tag [first, count]) 0xD1 ((allFeeds.drop first.toNat).map s.feedRecord))
      ∧ (first.toNat < 8 →
        reads (.readPaths tag [first, count]) 0xD2 ((allPaths.drop first.toNat).map s.pathRecord))
      ∧ (first.toNat < 32 →
        reads (.readLists tag [first, count]) 0xD3 (((List.range 32).drop first.toNat).map s.listsRecord))
      ∧ reads (.readServices tag [k0, k1, count]) 0xD4 (from'.map fun e => s.serviceRecord e.1 e.2)
      ∧ reads (.readCandidates tag [k0, k1, count]) 0xD5 (from'.map fun e => s.candidatesRecord e.1 e.2)
      ∧ (first.toNat < 64 →
        reads (.readSlots tag [first, count]) 0xD6 ((allSlots.drop first.toNat).map s.slotRecord)))
    ∧ (6 ≤ first.toNat → refused (.readFeeds tag [first, count]) 0xD1 1)
    ∧ (8 ≤ first.toNat → refused (.readPaths tag [first, count]) 0xD2 1)
    ∧ (32 ≤ first.toNat → refused (.readLists tag [first, count]) 0xD3 1)
    ∧ (64 ≤ first.toNat → refused (.readSlots tag [first, count]) 0xD6 1)
    ∧ refused (.readCarriers tag [first, 0]) 0xD0 2
    ∧ (first.toNat < 6 → refused (.readFeeds tag [first, 0]) 0xD1 2)
    ∧ (first.toNat < 8 → refused (.readPaths tag [first, 0]) 0xD2 2)
    ∧ (first.toNat < 32 → refused (.readLists tag [first, 0]) 0xD3 2)
    ∧ refused (.readServices tag [k0, k1, 0]) 0xD4 2
    ∧ refused (.readCandidates tag [k0, k1, 0]) 0xD5 2
    ∧ (first.toNat < 64 → refused (.readSlots tag [first, 0]) 0xD6 2)
    ∧ exec (.readStatus tag []) s
        = .next (({ s.hunts with summary := 0 } : State).owe 0xD7 tag ⟨.ok, s.statusRecord⟩)
    ∧ exec (.paramGet tag []) s = .next (s.hunts.owe 0x91 tag ⟨.ok, s.params.bytes⟩))
  ∧ ∀ s : State,
    -- the bytes of a field that a presence bit tells of, 0 where it is absent
    let cand (x : Option CandName) : List Byte :=
      match x with
      | none => [0, 0, 0]
      | some n => byteOf n.carrier :: le16 n.serviceId
    let meas (x : Option Meas) : List Byte :=
      match x with
      | none => [0, 0, 0, 0, 0]
      | some m => [byteOf m.cls.code, byteOf m.window, byteOf m.leadIn, flagByte m.release, byteOf m.requester.code]
    let stamp (x : Option Stamp) : List Byte := le32 ((x.map (·.toNat)).getD 0)
    let setting (x : Option Setting) : List Byte :=
      match x with
      | none => [0xFF, 0xFF]
      | some x => [byteOf x.band.code, byteOf x.pol.code]
    (∀ c : Nat,
      (s.carrier c = none → s.carrierRecord c = byteOf c :: List.replicate 35 0)
      ∧ ∀ x, s.carrier c = some x →
        let r := s.carrierRecord c
        let y := x.reception
        r.length = 36
        ∧ bytesAt r 0 4 = [byteOf c, 1, flagByte x.plan.enabled, byteOf x.plan.feed.1]
        ∧ bytesAt r 4 4 = le32 x.plan.frequency ∧ bytesAt r 8 2 = setting x.plan.setting
        ∧ bytesAt r 10 2 = le16 x.plan.rate
        ∧ bytesAt r 12 3 = [byteOf x.plan.modulation.code, byteOf y.state.code,
            byteOf (bitIf 0 y.scoredAt.isSome + bitIf 1 y.levelAvg.isSome + bitIf 2 x.content.identity.isSome
              + bitIf 3 x.content.version.isSome)]
        ∧ bytesAt r 15 2 = le16 (y.standing.getD 0xFFFF) ∧ bytesAt r 17 2 = le16 (y.lastScore.getD 0xFFFF)
        ∧ bytesAt r 19 4 = stamp y.scoredAt
        ∧ bytesAt r 23 3 = [byteOf y.samples, byteOf y.misses, byteOf (y.levelAvg.getD 0)]
        ∧ bytesAt r 26 2 = le16 (y.merAvg.getD 0xFFFF)
        ∧ bytesAt r 28 1 = [byteOf x.content.state.code]
        ∧ bytesAt r 29 2 = le16 ((x.content.identity.map (·.network)).getD 0)
        ∧ bytesAt r 31 2 = le16 ((x.content.identity.map (·.stream)).getD 0)
        ∧ bytesAt r 33 3 = [byteOf (x.content.version.getD 0), flagByte x.content.truncated, 0])
    ∧ (∀ f : Fin 6, (s.feed f).waiting.length ≤ 8 →
      let r := s.feedRecord f
      let x := s.feed f
      r.length = 24
      ∧ bytesAt r 0 5 = [byteOf f.1, byteOf x.kind.code, flagByte x.supply, byteOf x.preference, byteOf x.state.code]
      ∧ bytesAt r 5 2 = setting x.setting
      ∧ bytesAt r 7 3 = [byteOf (s.users f), byteOf x.faultCount, byteOf x.waiting.length]
      ∧ (∀ k, k < 8 → bytesAt r (10 + k) 1 = [byteOr ((x.waiting[k]?).map (·.1))])
      ∧ bytesAt r 18 1 = [byteOf (bitIf 0 x.lastTuneStart.isSome)] ∧ bytesAt r 19 4 = stamp x.lastTuneStart
      ∧ bytesAt r 23 1 = [0])
    ∧ (∀ p : Fin 8,
      let r := s.pathRecord p
      let x := s.path p
      let carried := x.heldTune.bind (·.meas)
      r.length = 48
      ∧ bytesAt r 0 4 = [byteOf p.1, byteOf x.mode.code, byteOr (x.pendingMode.map (·.code)), byteOf x.state.code]
      ∧ bytesAt r 4 2 = le16 (bitIf 0 x.tuned.isSome + bitIf 1 x.posted.isSome + bitIf 2 x.window.isSome
          + bitIf 3 x.held.isSome + bitIf 4 x.heldTune.isSome + bitIf 5 carried.isSome + bitIf 6 x.tuneStart.isSome
          + bitIf 7 x.earliestDetach.isSome + bitIf 8 x.releaseTime.isSome)
      ∧ bytesAt r 6 2 = [byteOf (x.tuned.getD 0), byteOr (x.tuneRequester.map (·.code))]
      ∧ bytesAt r 8 5 = meas x.posted ∧ bytesAt r 13 5 = meas (x.window.map (·.meas))
      ∧ bytesAt r 18 2 = [byteOf ((x.window.map (·.leadDone)).getD 0), byteOf ((x.window.map (·.counted)).getD 0)]
      ∧ bytesAt r 20 5 = meas x.held
      ∧ bytesAt r 25 2 = [byteOf ((x.heldTune.map (·.carrier)).getD 0),
          byteOf ((x.heldTune.map (·.requester.code)).getD 0)]
      ∧ bytesAt r 27 5 = meas carried ∧ bytesAt r 32 4 = stamp x.tuneStart ∧ bytesAt r 36 4 = stamp x.earliestDetach
      ∧ bytesAt r 40 4 = stamp x.releaseTime
      ∧ bytesAt r 44 4 = [flagByte (decide (x.outbox ≠ [])), 0, 0, 0])
    ∧ (∀ n : Fin 8,
      let r := s.listsRecord n.1
      let l := s.sweep n
      let e := l.loan.map (·.entry)
      r.length = 24
      ∧ bytesAt r 0 2 = [byteOf n.1, flagByte l.descriptor.isSome]
      ∧ bytesAt r 2 2 = le16 ((l.descriptor.map (·.first)).getD 0xFFFF)
      ∧ bytesAt r 4 2 = le16 ((l.descriptor.map (·.length)).getD 0xFFFF)
      ∧ bytesAt r 6 3 = [byteOf ((l.descriptor.map (·.passes)).getD 0),
          byteOr (l.descriptor.map fun d => if d.rechecks = true then 1 else 0), byteOf l.state.code]
      ∧ bytesAt r 9 2 = le16 l.position ∧ bytesAt r 11 1 = [byteOf l.pass] ∧ bytesAt r 12 2 = le16 l.rest
      ∧ bytesAt r 14 2 = [flagByte l.allSkipped, byteOf l.stage.code] ∧ bytesAt r 16 2 = le16 (l.seek.getD 0xFFFF)
      ∧ bytesAt r 18 4 = [byteOf ((e.map (·.carrier)).getD 0), byteOr (e.map (·.cls.code)),
          byteOr (e.map (·.urgency.code)), byteOr (e.map (·.reason.code))]
      ∧ bytesAt r 22 2 = [byteOr (l.resume.map (·.code)), byteOr (l.doneReason.map (·.code))])
    ∧ (∀ k, k < 24 →
      let r := s.listsRecord (8 + k)
      let e := s.recheckQueue[k]?
      r.length = 24
      ∧ bytesAt r 0 3 = [byteOf (8 + k), flagByte e.isSome, byteOf ((e.map (·.carrier)).getD 0)]
      ∧ bytesAt r 3 3 = [byteOr (e.map (·.cls.code)), byteOr (e.map (·.urgency.code)), byteOr (e.map (·.reason.code))]
      ∧ bytesAt r 6 4 = stamp (e.map (·.arrival)) ∧ bytesAt r 10 14 = List.replicate 14 0)
    ∧ (∀ (key : Nat) (v : Service), v.name.length ≤ 20 →
      let r := s.serviceRecord key v
      let pairs := (s.bindings.filter fun b => decide (b.key = key)).map (·.pair)
      r.length = 33 + 4 * min 240 pairs.length
      ∧ bytesAt r 0 2 = le16 key
      ∧ bytesAt r 2 2 = [if v.pair = none then 0 else 1, byteOf (bitIf 0 v.pair.isSome)]
      ∧ bytesAt r 4 2 = le16 ((v.pair.map (·.network)).getD 0) ∧ bytesAt r 6 2 = le16 ((v.pair.map (·.serviceId)).getD 0)
      ∧ bytesAt r 8 2 = [byteOf v.kind.code, byteOf v.name.length]
      ∧ bytesAt r 10 20 = v.name ++ List.replicate (20 - v.name.length) 0
      ∧ bytesAt r 30 1 = [byteOf v.cands.length] ∧ bytesAt r 31 2 = le16 pairs.length
      ∧ (∀ k q, k < 240 → pairs[k]? = some q →
        bytesAt r (33 + 4 * k) 4 = le16 q.network ++ le16 q.serviceId)
      ∧ (s.service key = some v →
        let t := s.candidatesRecord key v
        let l := s.rankOrder v.cands
        t.length = 3 + 7 * l.length ∧ l.length = v.cands.length
        ∧ bytesAt t 0 3 = le16 key ++ [byteOf v.cands.length]
        ∧ ∀ k x, l[k]? = some x →
          bytesAt t (3 + 7 * k) 7
            = byteOf x.name.carrier :: le16 x.name.serviceId
              ++ [byteOf (bitIf 0 x.absent + bitIf 1 x.scrambled + bitIf 2 x.running + bitIf 3 x.orphan),
                byteOf (s.group x).code]
              ++ le16 ((s.standing x.name.carrier).getD 0xFFFF)))
    ∧ (∀ i : Fin 64,
      let r := s.slotRecord i
      let x := s.slot i
      r.length = 36
      ∧ bytesAt r 0 1 = [byteOf i.1] ∧ bytesAt r 1 2 = le16 ((x.binding.map (·.key)).getD 0xFFFF)
      ∧ bytesAt r 3 5 = [byteOr (x.binding.map (·.shelf.1)), byteOr (x.binding.map (·.output.1)),
          flagByte x.scrambledAllowed, byteOf x.state.code, flagByte x.pinned]
      ∧ bytesAt r 8 1 = [byteOf (bitIf 0 x.active.isSome + bitIf 1 x.target.isSome + bitIf 2 x.challenger.isSome
          + bitIf 3 x.holdEnd.isSome + bitIf 4 x.bar.isSome + bitIf 5 x.lastTarget.isSome + bitIf 6 x.lastTag.isSome)]
      ∧ bytesAt r 9 3 = cand x.active ∧ bytesAt r 12 3 = cand x.target ∧ bytesAt r 15 3 = cand x.challenger
      ∧ bytesAt r 18 1 = [byteOf x.wins] ∧ bytesAt r 19 4 = stamp x.holdEnd
      ∧ bytesAt r 23 3 = cand (x.bar.map (·.cand)) ∧ bytesAt r 26 4 = stamp (x.bar.map (·.until'))
      ∧ bytesAt r 30 3 = [byteOf x.failures, byteOr (x.lastReason.map (·.code)), x.lastTag.getD 0]
      ∧ bytesAt r 33 3 = cand x.lastTarget)
    ∧ (let r := s.statusRecord
      let urgent := (s.notices.filter fun m => decide (m.kind.urgency = .urgent)).length
      r.length = 56
      ∧ bytesAt r 0 4 = le32 s.summary.toNat
      ∧ bytesAt r 4 7 = [byteOf s.survey.code, byteOf urgent, byteOf (s.notices.length - urgent),
          byteOf s.overflowCount, flagByte s.overflowMarker, byteOf s.params.watermark, byteOf s.recheckQueue.length]
      ∧ bytesAt r 11 2 = le16 s.carriers.length ∧ bytesAt r 13 2 = le16 s.services.length
      ∧ bytesAt r 15 2 = le16 s.bindings.length
      ∧ bytesAt r 17 2 = le16 (s.services.map fun e => e.2.cands.length).sum
      ∧ bytesAt r 19 1 = [byteOf (allSlots.filter fun i => decide ((s.slot i).state ≠ .vacant)).length]
      ∧ (∀ h : Fin 4,
        let x := s.shelf h
        bytesAt r (20 + 8 * h.1) 4 = [byteOf x.state.code, byteOf x.timeouts, x.nextTag, byteOf x.queue.length]
        ∧ bytesAt r (24 + 8 * h.1) 4
          = match x.inFlight with
            | none => [0, 0xFF, 0xFF, 0xFF]
            | some f => [f.order.tag, if f.order.kind = .clear then 1 else 0, byteOf f.order.output.1,
                if f.stage = .awaitingAccept then 0 else 1])
      ∧ bytesAt r 52 4 = le32 s.clock.toNat)
    ∧ ∀ P : Params,
      let r := P.bytes
      r.length = 64
      ∧ bytesAt r 0 6 = le16 P.settleTerrestrial ++ le16 P.settleCable ++ le16 P.settleSatellite
      ∧ bytesAt r 6 2 = le16 P.lockTimeout ∧ bytesAt r 8 2 = le16 P.minOccupancy
      ∧ bytesAt r 10 2 = le16 P.releaseRecovery ∧ bytesAt r 12 2 = le16 P.tuneSpacing
      ∧ bytesAt r 14 2 = le16 P.feedSettle ∧ bytesAt r 16 2 = le16 P.contentTimeout
      ∧ bytesAt r 18 2 = le16 P.smoothing ∧ bytesAt r 20 2 = le16 P.margin ∧ bytesAt r 22 2 = le16 P.winCount
      ∧ bytesAt r 24 2 = le16 P.holdDown ∧ bytesAt r 26 2 = le16 P.staleLimit ∧ bytesAt r 28 2 = le16 P.missLimit
      ∧ bytesAt r 30 2 = le16 P.recheckWindow ∧ bytesAt r 32 2 = le16 P.watermark ∧ bytesAt r 34 2 = le16 P.prescaler
      ∧ (∀ m : Fin 8, bytesAt r (36 + 2 * m.1) 2 = le16 (P.requiredMer[m.1]))
      ∧ bytesAt r 52 4 = le16 P.windowTerrestrial.lmin ++ le16 P.windowTerrestrial.lmax
      ∧ bytesAt r 56 4 = le16 P.windowCable.lmin ++ le16 P.windowCable.lmax
      ∧ bytesAt r 60 4 = le16 P.windowSatellite.lmin ++ le16 P.windowSatellite.lmax
      -- the code values, numbered from 0 in the order of Table 13-9, and the result codes
      ∧ [FeedKind.terrestrial, .cable, .satellite, .noKind].map (·.code) = List.range 4
      ∧ [FeedState.off, .on, .setting, .fault, .retry].map (·.code) = List.range 5
      ∧ [Band.low, .high].map (·.code) = List.range 2 ∧ [Polarisation.vertical, .horizontal].map (·.code) = List.range 2
      ∧ [Modulation.qpsk, .psk8, .apsk16, .qam64, .qam256, .tQpsk, .tQam16, .tQam64].map (·.code) = List.range 8
      ∧ [PathMode.off, .list, .manual].map (·.code) = List.range 3
      ∧ [PathState.parked, .waitFeed, .settling, .locking, .locked, .measuring, .releasing, .recovering].map (·.code)
        = List.range 8
      ∧ [MeasClass.quality, .level, .content].map (·.code) = List.range 3
      ∧ [Requester.list, .recheck, .probe].map (·.code) = List.range 3
      ∧ [MeasOutcome.complete, .partialWindow, .noLock, .aborted, .incomplete, .truncated].map (·.code) = List.range 6
      ∧ [ListState.idle, .running, .resting, .suspended, .done].map (·.code) = List.range 5
      ∧ [ResumeState.running, .resting].map (·.code) = [1, 2]
      ∧ [EntryStage.notBegun, .begun, .inFlight].map (·.code) = List.range 3
      ∧ [DoneReason.complete, .empty].map (·.code) = List.range 2
      ∧ [Urgency.urgent, .routine].map (·.code) = List.range 2
      ∧ [RecheckReason.activeMiss, .activeStale, .challenger, .shelfLoss, .versionChange, .probe].map (·.code)
        = List.range 6
      ∧ [ReceptionState.unmeasured, .fresh, .stale, .lost].map (·.code) = List.range 4
      ∧ [ContentState.new, .known, .changed].map (·.code) = List.range 3
      ∧ [ServiceKind.tv, .radio, .data, .unknown].map (·.code) = List.range 4
      ∧ [RankGroup.a, .b, .c].map (·.code) = List.range 3
      ∧ [SlotState.vacant, .seeking, .onAir, .switching, .held, .fault].map (·.code) = List.range 6
      ∧ [OrderReason.initial, .better, .failover, .pin, .resync, .host].map (·.code) = List.range 6
      ∧ [ShelfState.unknown, .online, .offline].map (·.code) = List.range 3
      ∧ [SurveyState.stopped, .running, .paused, .stopping].map (·.code) = List.range 4
      ∧ [FailCause.absent, .orphan, .notRunning, .disabled, .lost, .scrambled].map (·.code) = List.range 6
      ∧ [ResultCode.ok, .frameError, .unknownKind, .badLength, .outOfRange, .notFound, .wrongState, .busy, .feedBusy,
          .inUse, .notTuned, .noRoom, .duplicate].map (·.code) = List.range 13

/-- NOTICE_FETCH of n of 1 to 16 returns the first n notices of the queue, the urgent ones first, and removes them; with
fewer than n and the overflow marker set it appends one NOTICE_OVERFLOW record, and the count and the marker are
cleared. Any other n is OUT_OF_RANGE on field 1. A notice record is the 26 bytes of Table 13-6, with the code and the
urgency that Tables 13-9 and 12-4 give its kind (R188, R189, R195). -/
def Obligations.NoticeFetchTakesNotices : Prop :=
  (∀ (s : State) (tag n : Byte), s.takes = true →
    let taken := s.notices.take n.toNat
    ((n = 0 ∨ 16 < n.toNat) →
      exec (.noticeFetch tag [n]) s = .next (s.hunts.owe 0xE0 tag ⟨.outOfRange, [1]⟩))
    ∧ (1 ≤ n.toNat → n.toNat ≤ 16 →
      ((s.overflowMarker = false ∨ n.toNat ≤ s.notices.length) →
        exec (.noticeFetch tag [n]) s
          = .next (({ s.hunts with notices := s.notices.drop n.toNat } : State).owe 0xE0 tag
              ⟨.ok, byteOf taken.length :: taken.flatMap Notice.bytes⟩))
      ∧ (s.overflowMarker = true → s.notices.length < n.toNat →
        exec (.noticeFetch tag [n]) s
          = .next (({ s.hunts with notices := [], overflowCount := 0, overflowMarker := false } : State).owe 0xE0 tag
              ⟨.ok, byteOf (s.notices.length + 1) :: s.notices.flatMap Notice.bytes
                ++ [20, 1, 0, 0, 1] ++ le32 s.overflowTime.toNat
                ++ 1 :: byteOf s.overflowCount :: List.replicate 15 0⟩)))
    ∧ (s.noticesOk = true →
      s.notices = (s.notices.filter fun m => decide (m.kind.urgency = .urgent))
        ++ s.notices.filter fun m => decide (m.kind.urgency = .routine)))
  ∧ ∀ m : Notice, m.detail.length ≤ 16 →
    let r := m.bytes
    -- the kinds are numbered from 1 in the order of Table 13-9, and the first six are urgent
    let kinds : List NoticeKind :=
      [.slotFailover, .slotSeeking, .slotFault, .shelfOffline, .feedFault, .feedOff, .listMark, .listDone,
        .carrierChanged, .carrierLost, .serviceFound, .candidateOverflow, .tableFull, .recheckDropped, .slotSwitched,
        .routeLate, .shelfReady, .probeResult, .surveyState]
    r.length = 26
    ∧ (∃ k, kinds[k]? = some m.kind ∧ bytesAt r 0 2 = [byteOf (k + 1), if k < 6 then 0 else 1])
    ∧ bytesAt r 2 2 = le16 m.object ∧ bytesAt r 4 1 = [byteOf m.count] ∧ bytesAt r 5 4 = le32 m.stamp.toNat
    ∧ bytesAt r 9 1 = [byteOf m.detail.length]
    ∧ bytesAt r 10 16 = m.detail ++ List.replicate (16 - m.detail.length) 0

/-- NOTICE_MASK sets or clears the mask of a posted kind, leaves every notice where it stands, and replies with the set
of masked kinds; any other code is OUT_OF_RANGE on field 1. An event of a masked kind enters no notice, and one of an
unmasked kind is placed (R190). -/
def Obligations.NoticeMaskSetsMask : Prop :=
  ∀ (s : State) (tag : Byte) (k : NoticeKind) (w : Byte), s.takes = true →
    let masked : State := { s.hunts with masks := s.masks ||| BitVec.ofNat 32 (2 ^ k.code) }
    let unmasked : State := { s.hunts with masks := s.masks &&& ~~~ BitVec.ofNat 32 (2 ^ k.code) }
    exec (.noticeMask tag [byteOf k.code, 1]) s = .next (masked.owe 0xE1 tag ⟨.ok, le32 masked.masks.toNat⟩)
    ∧ exec (.noticeMask tag [byteOf k.code, 0]) s = .next (unmasked.owe 0xE1 tag ⟨.ok, le32 unmasked.masks.toNat⟩)
    ∧ (∀ c : Byte, (c = 0 ∨ 19 < c.toNat) →
      exec (.noticeMask tag [c, w]) s = .next (s.hunts.owe 0xE1 tag ⟨.outOfRange, [1]⟩))
    ∧ (1 < w.toNat → exec (.noticeMask tag [byteOf k.code, w]) s = .next (s.hunts.owe 0xE1 tag ⟨.outOfRange, [2]⟩))
    ∧ ∀ o d, (masked.post k o d).notices = s.notices
      ∧ (unmasked.post k o d).notices = (unmasked.placeNotice k o d).notices
      ∧ (unmasked.post k o d).overflowCount = (unmasked.placeNotice k o d).overflowCount

/-- Posting an event: its kind is set in the raw event summary. A masked one ends there. An unmasked one joins a
queued notice of its kind and object, whose count rises by 1 and holds at 255; else it takes a place with count 1,
behind the notices of its urgency; a routine one is refused at 28 routine notices or 32 in all, and at 32 an urgent
one displaces the newest routine notice, or is refused where there is none. A refusal or removal is counted, up to
255, and marked with its time. ATTN is asserted at the watermark, for an urgent notice or the marker, and else not
(R187, R188, R191). -/
def Obligations.EventsArePlaced : Prop :=
  ∀ (s : State) (k : NoticeKind) (o : Nat) (d : List Byte),
    let bit := BitVec.ofNat 32 (2 ^ k.code)
    let u : State := { s with summary := s.summary ||| bit }
    let lost (t : State) : State :=
      { t with overflowCount := min 255 (s.overflowCount + 1), overflowMarker := true, overflowTime := s.clock }
    let e : Notice := { kind := k, object := o, count := 1, stamp := s.clock, detail := d }
    let urgents (l : List Notice) := l.takeWhile fun m => decide (m.kind.urgency = .urgent)
    let behind (l : List Notice) := l.dropWhile fun m => decide (m.kind.urgency = .urgent)
    let routines := (s.notices.filter fun m => decide (m.kind.urgency = .routine)).length
    (s.masks &&& bit ≠ 0 → s.post k o d = u)
    ∧ (s.masks &&& bit = 0 →
      ((∃ m ∈ s.notices, m.kind = k ∧ m.object = o) →
        s.post k o d
          = { u with
              notices := s.notices.map fun m =>
                if m.kind = k ∧ m.object = o then
                  { m with count := min 255 (m.count + 1), stamp := s.clock, detail := d }
                else m })
      ∧ ((∀ m ∈ s.notices, ¬ (m.kind = k ∧ m.object = o)) →
        (k.urgency = .routine → routines < 28 → s.notices.length < 32 →
          s.post k o d = { u with notices := s.notices ++ [e] })
        ∧ (k.urgency = .routine → (28 ≤ routines ∨ 32 ≤ s.notices.length) → s.post k o d = lost u)
        ∧ (k.urgency = .urgent → s.notices.length < 32 →
          s.post k o d = { u with notices := urgents s.notices ++ e :: behind s.notices })
        ∧ (k.urgency = .urgent → 32 ≤ s.notices.length → (∃ m ∈ s.notices, m.kind.urgency = .routine) →
          s.post k o d
            = lost { u with notices := urgents s.notices.dropLast ++ e :: behind s.notices.dropLast })
        ∧ (k.urgency = .urgent → 32 ≤ s.notices.length → (∀ m ∈ s.notices, m.kind.urgency = .urgent) →
          s.post k o d = lost u)))
    ∧ (s.attn = true ↔ s.params.watermark ≤ s.notices.length ∨ (∃ m ∈ s.notices, m.kind.urgency = .urgent)
        ∨ s.overflowMarker = true)
end

