-- ==== Sys2Proof/Laws/State.lean ====
section
/-! SUPPORT. What each update of State leaves as it was, one lemma for each field, and what a numbered record
reads as after an update. No proof need unfold a record update. -/
namespace Sys2Proof.Machine

/-! ## Full tables -/

@[simp] theorem tabGet_tabSet_self {α : Type} {n : Nat} (t : Vector α n) (i : Fin n) (x : α) :
    tabGet (tabSet t i x) i = x := by
  simp [tabGet, tabSet]

theorem tabGet_tabSet_ne {α : Type} {n : Nat} (t : Vector α n) {i j : Fin n} (x : α) (h : j ≠ i) :
    tabGet (tabSet t i x) j = tabGet t j := by
  have : i.1 ≠ j.1 := fun e => h (Fin.ext e.symm)
  simp [tabGet, tabSet, this]

theorem tabGet_tabSet {α : Type} {n : Nat} (t : Vector α n) (i j : Fin n) (x : α) :
    tabGet (tabSet t i x) j = if j = i then x else tabGet t j := by
  by_cases h : j = i
  · subst h; simp
  · simp [h, tabGet_tabSet_ne t x h]

@[simp] theorem tabGet_tabMap {α : Type} {n : Nat} (f : α → α) (t : Vector α n) (i : Fin n) :
    tabGet (tabMap f t) i = f (tabGet t i) := by
  simp [tabGet, tabMap]

/-! ## setFeed -/

@[simp] theorem State.setFeed_clock (s : State) (f : Fin 6) (x : Feed) : (s.setFeed f x).clock = s.clock := rfl
@[simp] theorem State.setFeed_pending (s : State) (f : Fin 6) (x : Feed) : (s.setFeed f x).pending = s.pending := rfl
@[simp] theorem State.setFeed_frameInput (s : State) (f : Fin 6) (x : Feed) : (s.setFeed f x).frameInput = s.frameInput := rfl
@[simp] theorem State.setFeed_waiting (s : State) (f : Fin 6) (x : Feed) : (s.setFeed f x).waiting = s.waiting := rfl
@[simp] theorem State.setFeed_replies (s : State) (f : Fin 6) (x : Feed) : (s.setFeed f x).replies = s.replies := rfl
@[simp] theorem State.setFeed_restarting (s : State) (f : Fin 6) (x : Feed) : (s.setFeed f x).restarting = s.restarting := rfl
@[simp] theorem State.setFeed_notices (s : State) (f : Fin 6) (x : Feed) : (s.setFeed f x).notices = s.notices := rfl
@[simp] theorem State.setFeed_masks (s : State) (f : Fin 6) (x : Feed) : (s.setFeed f x).masks = s.masks := rfl
@[simp] theorem State.setFeed_summary (s : State) (f : Fin 6) (x : Feed) : (s.setFeed f x).summary = s.summary := rfl
@[simp] theorem State.setFeed_overflowCount (s : State) (f : Fin 6) (x : Feed) : (s.setFeed f x).overflowCount = s.overflowCount := rfl
@[simp] theorem State.setFeed_overflowMarker (s : State) (f : Fin 6) (x : Feed) : (s.setFeed f x).overflowMarker = s.overflowMarker := rfl
@[simp] theorem State.setFeed_overflowTime (s : State) (f : Fin 6) (x : Feed) : (s.setFeed f x).overflowTime = s.overflowTime := rfl
@[simp] theorem State.setFeed_params (s : State) (f : Fin 6) (x : Feed) : (s.setFeed f x).params = s.params := rfl
@[simp] theorem State.setFeed_carriers (s : State) (f : Fin 6) (x : Feed) : (s.setFeed f x).carriers = s.carriers := rfl
@[simp] theorem State.setFeed_paths (s : State) (f : Fin 6) (x : Feed) : (s.setFeed f x).paths = s.paths := rfl
@[simp] theorem State.setFeed_planMemory (s : State) (f : Fin 6) (x : Feed) : (s.setFeed f x).planMemory = s.planMemory := rfl
@[simp] theorem State.setFeed_lists (s : State) (f : Fin 6) (x : Feed) : (s.setFeed f x).lists = s.lists := rfl
@[simp] theorem State.setFeed_tickEnd (s : State) (f : Fin 6) (x : Feed) : (s.setFeed f x).tickEnd = s.tickEnd := rfl
@[simp] theorem State.setFeed_recheckQueue (s : State) (f : Fin 6) (x : Feed) : (s.setFeed f x).recheckQueue = s.recheckQueue := rfl
@[simp] theorem State.setFeed_survey (s : State) (f : Fin 6) (x : Feed) : (s.setFeed f x).survey = s.survey := rfl
@[simp] theorem State.setFeed_services (s : State) (f : Fin 6) (x : Feed) : (s.setFeed f x).services = s.services := rfl
@[simp] theorem State.setFeed_bindings (s : State) (f : Fin 6) (x : Feed) : (s.setFeed f x).bindings = s.bindings := rfl
@[simp] theorem State.setFeed_slots (s : State) (f : Fin 6) (x : Feed) : (s.setFeed f x).slots = s.slots := rfl
@[simp] theorem State.setFeed_shelves (s : State) (f : Fin 6) (x : Feed) : (s.setFeed f x).shelves = s.shelves := rfl
@[simp] theorem State.setFeed_freeCount (s : State) (f : Fin 6) (x : Feed) : (s.setFeed f x).freeCount = s.freeCount := rfl
@[simp] theorem State.setFeed_path (s : State) (f : Fin 6) (x : Feed) (j : Fin 8) : (s.setFeed f x).path j = s.path j := rfl
@[simp] theorem State.setFeed_sweep (s : State) (f : Fin 6) (x : Feed) (j : Fin 8) : (s.setFeed f x).sweep j = s.sweep j := rfl
@[simp] theorem State.setFeed_slot (s : State) (f : Fin 6) (x : Feed) (j : Fin 64) : (s.setFeed f x).slot j = s.slot j := rfl
@[simp] theorem State.setFeed_shelf (s : State) (f : Fin 6) (x : Feed) (j : Fin 4) : (s.setFeed f x).shelf j = s.shelf j := rfl
@[simp] theorem State.setFeed_carrier (s : State) (f : Fin 6) (x : Feed) (j : Nat) : (s.setFeed f x).carrier j = s.carrier j := rfl
@[simp] theorem State.setFeed_service (s : State) (f : Fin 6) (x : Feed) (j : Nat) : (s.setFeed f x).service j = s.service j := rfl
@[simp] theorem State.feed_setFeed_self (s : State) (f : Fin 6) (x : Feed) : (s.setFeed f x).feed f = x := tabGet_tabSet_self _ _ _
theorem State.feed_setFeed_ne (s : State) {f j : Fin 6} (x : Feed) (hne : j ≠ f) : (s.setFeed f x).feed j = s.feed j :=
  tabGet_tabSet_ne _ _ hne
theorem State.feed_setFeed (s : State) (f j : Fin 6) (x : Feed) : (s.setFeed f x).feed j = if j = f then x else s.feed j :=
  tabGet_tabSet _ _ _ _

/-! ## setPath -/

@[simp] theorem State.setPath_clock (s : State) (p : Fin 8) (x : Path) : (s.setPath p x).clock = s.clock := rfl
@[simp] theorem State.setPath_pending (s : State) (p : Fin 8) (x : Path) : (s.setPath p x).pending = s.pending := rfl
@[simp] theorem State.setPath_frameInput (s : State) (p : Fin 8) (x : Path) : (s.setPath p x).frameInput = s.frameInput := rfl
@[simp] theorem State.setPath_waiting (s : State) (p : Fin 8) (x : Path) : (s.setPath p x).waiting = s.waiting := rfl
@[simp] theorem State.setPath_replies (s : State) (p : Fin 8) (x : Path) : (s.setPath p x).replies = s.replies := rfl
@[simp] theorem State.setPath_restarting (s : State) (p : Fin 8) (x : Path) : (s.setPath p x).restarting = s.restarting := rfl
@[simp] theorem State.setPath_notices (s : State) (p : Fin 8) (x : Path) : (s.setPath p x).notices = s.notices := rfl
@[simp] theorem State.setPath_masks (s : State) (p : Fin 8) (x : Path) : (s.setPath p x).masks = s.masks := rfl
@[simp] theorem State.setPath_summary (s : State) (p : Fin 8) (x : Path) : (s.setPath p x).summary = s.summary := rfl
@[simp] theorem State.setPath_overflowCount (s : State) (p : Fin 8) (x : Path) : (s.setPath p x).overflowCount = s.overflowCount := rfl
@[simp] theorem State.setPath_overflowMarker (s : State) (p : Fin 8) (x : Path) : (s.setPath p x).overflowMarker = s.overflowMarker := rfl
@[simp] theorem State.setPath_overflowTime (s : State) (p : Fin 8) (x : Path) : (s.setPath p x).overflowTime = s.overflowTime := rfl
@[simp] theorem State.setPath_params (s : State) (p : Fin 8) (x : Path) : (s.setPath p x).params = s.params := rfl
@[simp] theorem State.setPath_carriers (s : State) (p : Fin 8) (x : Path) : (s.setPath p x).carriers = s.carriers := rfl
@[simp] theorem State.setPath_feeds (s : State) (p : Fin 8) (x : Path) : (s.setPath p x).feeds = s.feeds := rfl
@[simp] theorem State.setPath_planMemory (s : State) (p : Fin 8) (x : Path) : (s.setPath p x).planMemory = s.planMemory := rfl
@[simp] theorem State.setPath_lists (s : State) (p : Fin 8) (x : Path) : (s.setPath p x).lists = s.lists := rfl
@[simp] theorem State.setPath_tickEnd (s : State) (p : Fin 8) (x : Path) : (s.setPath p x).tickEnd = s.tickEnd := rfl
@[simp] theorem State.setPath_recheckQueue (s : State) (p : Fin 8) (x : Path) : (s.setPath p x).recheckQueue = s.recheckQueue := rfl
@[simp] theorem State.setPath_survey (s : State) (p : Fin 8) (x : Path) : (s.setPath p x).survey = s.survey := rfl
@[simp] theorem State.setPath_services (s : State) (p : Fin 8) (x : Path) : (s.setPath p x).services = s.services := rfl
@[simp] theorem State.setPath_bindings (s : State) (p : Fin 8) (x : Path) : (s.setPath p x).bindings = s.bindings := rfl
@[simp] theorem State.setPath_slots (s : State) (p : Fin 8) (x : Path) : (s.setPath p x).slots = s.slots := rfl
@[simp] theorem State.setPath_shelves (s : State) (p : Fin 8) (x : Path) : (s.setPath p x).shelves = s.shelves := rfl
@[simp] theorem State.setPath_freeCount (s : State) (p : Fin 8) (x : Path) : (s.setPath p x).freeCount = s.freeCount := rfl
@[simp] theorem State.setPath_feed (s : State) (p : Fin 8) (x : Path) (j : Fin 6) : (s.setPath p x).feed j = s.feed j := rfl
@[simp] theorem State.setPath_sweep (s : State) (p : Fin 8) (x : Path) (j : Fin 8) : (s.setPath p x).sweep j = s.sweep j := rfl
@[simp] theorem State.setPath_slot (s : State) (p : Fin 8) (x : Path) (j : Fin 64) : (s.setPath p x).slot j = s.slot j := rfl
@[simp] theorem State.setPath_shelf (s : State) (p : Fin 8) (x : Path) (j : Fin 4) : (s.setPath p x).shelf j = s.shelf j := rfl
@[simp] theorem State.setPath_carrier (s : State) (p : Fin 8) (x : Path) (j : Nat) : (s.setPath p x).carrier j = s.carrier j := rfl
@[simp] theorem State.setPath_service (s : State) (p : Fin 8) (x : Path) (j : Nat) : (s.setPath p x).service j = s.service j := rfl
@[simp] theorem State.path_setPath_self (s : State) (p : Fin 8) (x : Path) : (s.setPath p x).path p = x := tabGet_tabSet_self _ _ _
theorem State.path_setPath_ne (s : State) {p j : Fin 8} (x : Path) (hne : j ≠ p) : (s.setPath p x).path j = s.path j :=
  tabGet_tabSet_ne _ _ hne
theorem State.path_setPath (s : State) (p j : Fin 8) (x : Path) : (s.setPath p x).path j = if j = p then x else s.path j :=
  tabGet_tabSet _ _ _ _

/-! ## setSweep -/

@[simp] theorem State.setSweep_clock (s : State) (n : Fin 8) (x : SweepList) : (s.setSweep n x).clock = s.clock := rfl
@[simp] theorem State.setSweep_pending (s : State) (n : Fin 8) (x : SweepList) : (s.setSweep n x).pending = s.pending := rfl
@[simp] theorem State.setSweep_frameInput (s : State) (n : Fin 8) (x : SweepList) : (s.setSweep n x).frameInput = s.frameInput := rfl
@[simp] theorem State.setSweep_waiting (s : State) (n : Fin 8) (x : SweepList) : (s.setSweep n x).waiting = s.waiting := rfl
@[simp] theorem State.setSweep_replies (s : State) (n : Fin 8) (x : SweepList) : (s.setSweep n x).replies = s.replies := rfl
@[simp] theorem State.setSweep_restarting (s : State) (n : Fin 8) (x : SweepList) : (s.setSweep n x).restarting = s.restarting := rfl
@[simp] theorem State.setSweep_notices (s : State) (n : Fin 8) (x : SweepList) : (s.setSweep n x).notices = s.notices := rfl
@[simp] theorem State.setSweep_masks (s : State) (n : Fin 8) (x : SweepList) : (s.setSweep n x).masks = s.masks := rfl
@[simp] theorem State.setSweep_summary (s : State) (n : Fin 8) (x : SweepList) : (s.setSweep n x).summary = s.summary := rfl
@[simp] theorem State.setSweep_overflowCount (s : State) (n : Fin 8) (x : SweepList) : (s.setSweep n x).overflowCount = s.overflowCount := rfl
@[simp] theorem State.setSweep_overflowMarker (s : State) (n : Fin 8) (x : SweepList) : (s.setSweep n x).overflowMarker = s.overflowMarker := rfl
@[simp] theorem State.setSweep_overflowTime (s : State) (n : Fin 8) (x : SweepList) : (s.setSweep n x).overflowTime = s.overflowTime := rfl
@[simp] theorem State.setSweep_params (s : State) (n : Fin 8) (x : SweepList) : (s.setSweep n x).params = s.params := rfl
@[simp] theorem State.setSweep_carriers (s : State) (n : Fin 8) (x : SweepList) : (s.setSweep n x).carriers = s.carriers := rfl
@[simp] theorem State.setSweep_feeds (s : State) (n : Fin 8) (x : SweepList) : (s.setSweep n x).feeds = s.feeds := rfl
@[simp] theorem State.setSweep_paths (s : State) (n : Fin 8) (x : SweepList) : (s.setSweep n x).paths = s.paths := rfl
@[simp] theorem State.setSweep_planMemory (s : State) (n : Fin 8) (x : SweepList) : (s.setSweep n x).planMemory = s.planMemory := rfl
@[simp] theorem State.setSweep_tickEnd (s : State) (n : Fin 8) (x : SweepList) : (s.setSweep n x).tickEnd = s.tickEnd := rfl
@[simp] theorem State.setSweep_recheckQueue (s : State) (n : Fin 8) (x : SweepList) : (s.setSweep n x).recheckQueue = s.recheckQueue := rfl
@[simp] theorem State.setSweep_survey (s : State) (n : Fin 8) (x : SweepList) : (s.setSweep n x).survey = s.survey := rfl
@[simp] theorem State.setSweep_services (s : State) (n : Fin 8) (x : SweepList) : (s.setSweep n x).services = s.services := rfl
@[simp] theorem State.setSweep_bindings (s : State) (n : Fin 8) (x : SweepList) : (s.setSweep n x).bindings = s.bindings := rfl
@[simp] theorem State.setSweep_slots (s : State) (n : Fin 8) (x : SweepList) : (s.setSweep n x).slots = s.slots := rfl
@[simp] theorem State.setSweep_shelves (s : State) (n : Fin 8) (x : SweepList) : (s.setSweep n x).shelves = s.shelves := rfl
@[simp] theorem State.setSweep_freeCount (s : State) (n : Fin 8) (x : SweepList) : (s.setSweep n x).freeCount = s.freeCount := rfl
@[simp] theorem State.setSweep_feed (s : State) (n : Fin 8) (x : SweepList) (j : Fin 6) : (s.setSweep n x).feed j = s.feed j := rfl
@[simp] theorem State.setSweep_path (s : State) (n : Fin 8) (x : SweepList) (j : Fin 8) : (s.setSweep n x).path j = s.path j := rfl
@[simp] theorem State.setSweep_slot (s : State) (n : Fin 8) (x : SweepList) (j : Fin 64) : (s.setSweep n x).slot j = s.slot j := rfl
@[simp] theorem State.setSweep_shelf (s : State) (n : Fin 8) (x : SweepList) (j : Fin 4) : (s.setSweep n x).shelf j = s.shelf j := rfl
@[simp] theorem State.setSweep_carrier (s : State) (n : Fin 8) (x : SweepList) (j : Nat) : (s.setSweep n x).carrier j = s.carrier j := rfl
@[simp] theorem State.setSweep_service (s : State) (n : Fin 8) (x : SweepList) (j : Nat) : (s.setSweep n x).service j = s.service j := rfl
@[simp] theorem State.sweep_setSweep_self (s : State) (n : Fin 8) (x : SweepList) : (s.setSweep n x).sweep n = x := tabGet_tabSet_self _ _ _
theorem State.sweep_setSweep_ne (s : State) {n j : Fin 8} (x : SweepList) (hne : j ≠ n) : (s.setSweep n x).sweep j = s.sweep j :=
  tabGet_tabSet_ne _ _ hne
theorem State.sweep_setSweep (s : State) (n j : Fin 8) (x : SweepList) : (s.setSweep n x).sweep j = if j = n then x else s.sweep j :=
  tabGet_tabSet _ _ _ _

/-! ## setSlot -/

@[simp] theorem State.setSlot_clock (s : State) (i : Fin 64) (x : Slot) : (s.setSlot i x).clock = s.clock := rfl
@[simp] theorem State.setSlot_pending (s : State) (i : Fin 64) (x : Slot) : (s.setSlot i x).pending = s.pending := rfl
@[simp] theorem State.setSlot_frameInput (s : State) (i : Fin 64) (x : Slot) : (s.setSlot i x).frameInput = s.frameInput := rfl
@[simp] theorem State.setSlot_waiting (s : State) (i : Fin 64) (x : Slot) : (s.setSlot i x).waiting = s.waiting := rfl
@[simp] theorem State.setSlot_replies (s : State) (i : Fin 64) (x : Slot) : (s.setSlot i x).replies = s.replies := rfl
@[simp] theorem State.setSlot_restarting (s : State) (i : Fin 64) (x : Slot) : (s.setSlot i x).restarting = s.restarting := rfl
@[simp] theorem State.setSlot_notices (s : State) (i : Fin 64) (x : Slot) : (s.setSlot i x).notices = s.notices := rfl
@[simp] theorem State.setSlot_masks (s : State) (i : Fin 64) (x : Slot) : (s.setSlot i x).masks = s.masks := rfl
@[simp] theorem State.setSlot_summary (s : State) (i : Fin 64) (x : Slot) : (s.setSlot i x).summary = s.summary := rfl
@[simp] theorem State.setSlot_overflowCount (s : State) (i : Fin 64) (x : Slot) : (s.setSlot i x).overflowCount = s.overflowCount := rfl
@[simp] theorem State.setSlot_overflowMarker (s : State) (i : Fin 64) (x : Slot) : (s.setSlot i x).overflowMarker = s.overflowMarker := rfl
@[simp] theorem State.setSlot_overflowTime (s : State) (i : Fin 64) (x : Slot) : (s.setSlot i x).overflowTime = s.overflowTime := rfl
@[simp] theorem State.setSlot_params (s : State) (i : Fin 64) (x : Slot) : (s.setSlot i x).params = s.params := rfl
@[simp] theorem State.setSlot_carriers (s : State) (i : Fin 64) (x : Slot) : (s.setSlot i x).carriers = s.carriers := rfl
@[simp] theorem State.setSlot_feeds (s : State) (i : Fin 64) (x : Slot) : (s.setSlot i x).feeds = s.feeds := rfl
@[simp] theorem State.setSlot_paths (s : State) (i : Fin 64) (x : Slot) : (s.setSlot i x).paths = s.paths := rfl
@[simp] theorem State.setSlot_planMemory (s : State) (i : Fin 64) (x : Slot) : (s.setSlot i x).planMemory = s.planMemory := rfl
@[simp] theorem State.setSlot_lists (s : State) (i : Fin 64) (x : Slot) : (s.setSlot i x).lists = s.lists := rfl
@[simp] theorem State.setSlot_tickEnd (s : State) (i : Fin 64) (x : Slot) : (s.setSlot i x).tickEnd = s.tickEnd := rfl
@[simp] theorem State.setSlot_recheckQueue (s : State) (i : Fin 64) (x : Slot) : (s.setSlot i x).recheckQueue = s.recheckQueue := rfl
@[simp] theorem State.setSlot_survey (s : State) (i : Fin 64) (x : Slot) : (s.setSlot i x).survey = s.survey := rfl
@[simp] theorem State.setSlot_services (s : State) (i : Fin 64) (x : Slot) : (s.setSlot i x).services = s.services := rfl
@[simp] theorem State.setSlot_bindings (s : State) (i : Fin 64) (x : Slot) : (s.setSlot i x).bindings = s.bindings := rfl
@[simp] theorem State.setSlot_shelves (s : State) (i : Fin 64) (x : Slot) : (s.setSlot i x).shelves = s.shelves := rfl
@[simp] theorem State.setSlot_freeCount (s : State) (i : Fin 64) (x : Slot) : (s.setSlot i x).freeCount = s.freeCount := rfl
@[simp] theorem State.setSlot_feed (s : State) (i : Fin 64) (x : Slot) (j : Fin 6) : (s.setSlot i x).feed j = s.feed j := rfl
@[simp] theorem State.setSlot_path (s : State) (i : Fin 64) (x : Slot) (j : Fin 8) : (s.setSlot i x).path j = s.path j := rfl
@[simp] theorem State.setSlot_sweep (s : State) (i : Fin 64) (x : Slot) (j : Fin 8) : (s.setSlot i x).sweep j = s.sweep j := rfl
@[simp] theorem State.setSlot_shelf (s : State) (i : Fin 64) (x : Slot) (j : Fin 4) : (s.setSlot i x).shelf j = s.shelf j := rfl
@[simp] theorem State.setSlot_carrier (s : State) (i : Fin 64) (x : Slot) (j : Nat) : (s.setSlot i x).carrier j = s.carrier j := rfl
@[simp] theorem State.setSlot_service (s : State) (i : Fin 64) (x : Slot) (j : Nat) : (s.setSlot i x).service j = s.service j := rfl
@[simp] theorem State.slot_setSlot_self (s : State) (i : Fin 64) (x : Slot) : (s.setSlot i x).slot i = x := tabGet_tabSet_self _ _ _
theorem State.slot_setSlot_ne (s : State) {i j : Fin 64} (x : Slot) (hne : j ≠ i) : (s.setSlot i x).slot j = s.slot j :=
  tabGet_tabSet_ne _ _ hne
theorem State.slot_setSlot (s : State) (i j : Fin 64) (x : Slot) : (s.setSlot i x).slot j = if j = i then x else s.slot j :=
  tabGet_tabSet _ _ _ _

/-! ## setShelf -/

@[simp] theorem State.setShelf_clock (s : State) (h : Fin 4) (x : Shelf) : (s.setShelf h x).clock = s.clock := rfl
@[simp] theorem State.setShelf_pending (s : State) (h : Fin 4) (x : Shelf) : (s.setShelf h x).pending = s.pending := rfl
@[simp] theorem State.setShelf_frameInput (s : State) (h : Fin 4) (x : Shelf) : (s.setShelf h x).frameInput = s.frameInput := rfl
@[simp] theorem State.setShelf_waiting (s : State) (h : Fin 4) (x : Shelf) : (s.setShelf h x).waiting = s.waiting := rfl
@[simp] theorem State.setShelf_replies (s : State) (h : Fin 4) (x : Shelf) : (s.setShelf h x).replies = s.replies := rfl
@[simp] theorem State.setShelf_restarting (s : State) (h : Fin 4) (x : Shelf) : (s.setShelf h x).restarting = s.restarting := rfl
@[simp] theorem State.setShelf_notices (s : State) (h : Fin 4) (x : Shelf) : (s.setShelf h x).notices = s.notices := rfl
@[simp] theorem State.setShelf_masks (s : State) (h : Fin 4) (x : Shelf) : (s.setShelf h x).masks = s.masks := rfl
@[simp] theorem State.setShelf_summary (s : State) (h : Fin 4) (x : Shelf) : (s.setShelf h x).summary = s.summary := rfl
@[simp] theorem State.setShelf_overflowCount (s : State) (h : Fin 4) (x : Shelf) : (s.setShelf h x).overflowCount = s.overflowCount := rfl
@[simp] theorem State.setShelf_overflowMarker (s : State) (h : Fin 4) (x : Shelf) : (s.setShelf h x).overflowMarker = s.overflowMarker := rfl
@[simp] theorem State.setShelf_overflowTime (s : State) (h : Fin 4) (x : Shelf) : (s.setShelf h x).overflowTime = s.overflowTime := rfl
@[simp] theorem State.setShelf_params (s : State) (h : Fin 4) (x : Shelf) : (s.setShelf h x).params = s.params := rfl
@[simp] theorem State.setShelf_carriers (s : State) (h : Fin 4) (x : Shelf) : (s.setShelf h x).carriers = s.carriers := rfl
@[simp] theorem State.setShelf_feeds (s : State) (h : Fin 4) (x : Shelf) : (s.setShelf h x).feeds = s.feeds := rfl
@[simp] theorem State.setShelf_paths (s : State) (h : Fin 4) (x : Shelf) : (s.setShelf h x).paths = s.paths := rfl
@[simp] theorem State.setShelf_planMemory (s : State) (h : Fin 4) (x : Shelf) : (s.setShelf h x).planMemory = s.planMemory := rfl
@[simp] theorem State.setShelf_lists (s : State) (h : Fin 4) (x : Shelf) : (s.setShelf h x).lists = s.lists := rfl
@[simp] theorem State.setShelf_tickEnd (s : State) (h : Fin 4) (x : Shelf) : (s.setShelf h x).tickEnd = s.tickEnd := rfl
@[simp] theorem State.setShelf_recheckQueue (s : State) (h : Fin 4) (x : Shelf) : (s.setShelf h x).recheckQueue = s.recheckQueue := rfl
@[simp] theorem State.setShelf_survey (s : State) (h : Fin 4) (x : Shelf) : (s.setShelf h x).survey = s.survey := rfl
@[simp] theorem State.setShelf_services (s : State) (h : Fin 4) (x : Shelf) : (s.setShelf h x).services = s.services := rfl
@[simp] theorem State.setShelf_bindings (s : State) (h : Fin 4) (x : Shelf) : (s.setShelf h x).bindings = s.bindings := rfl
@[simp] theorem State.setShelf_slots (s : State) (h : Fin 4) (x : Shelf) : (s.setShelf h x).slots = s.slots := rfl
@[simp] theorem State.setShelf_freeCount (s : State) (h : Fin 4) (x : Shelf) : (s.setShelf h x).freeCount = s.freeCount := rfl
@[simp] theorem State.setShelf_feed (s : State) (h : Fin 4) (x : Shelf) (j : Fin 6) : (s.setShelf h x).feed j = s.feed j := rfl
@[simp] theorem State.setShelf_path (s : State) (h : Fin 4) (x : Shelf) (j : Fin 8) : (s.setShelf h x).path j = s.path j := rfl
@[simp] theorem State.setShelf_sweep (s : State) (h : Fin 4) (x : Shelf) (j : Fin 8) : (s.setShelf h x).sweep j = s.sweep j := rfl
@[simp] theorem State.setShelf_slot (s : State) (h : Fin 4) (x : Shelf) (j : Fin 64) : (s.setShelf h x).slot j = s.slot j := rfl
@[simp] theorem State.setShelf_carrier (s : State) (h : Fin 4) (x : Shelf) (j : Nat) : (s.setShelf h x).carrier j = s.carrier j := rfl
@[simp] theorem State.setShelf_service (s : State) (h : Fin 4) (x : Shelf) (j : Nat) : (s.setShelf h x).service j = s.service j := rfl
@[simp] theorem State.shelf_setShelf_self (s : State) (h : Fin 4) (x : Shelf) : (s.setShelf h x).shelf h = x := tabGet_tabSet_self _ _ _
theorem State.shelf_setShelf_ne (s : State) {h j : Fin 4} (x : Shelf) (hne : j ≠ h) : (s.setShelf h x).shelf j = s.shelf j :=
  tabGet_tabSet_ne _ _ hne
theorem State.shelf_setShelf (s : State) (h j : Fin 4) (x : Shelf) : (s.setShelf h x).shelf j = if j = h then x else s.shelf j :=
  tabGet_tabSet _ _ _ _

/-! ## setCarrier -/

@[simp] theorem State.setCarrier_clock (s : State) (c : Nat) (x : Carrier) : (s.setCarrier c x).clock = s.clock := rfl
@[simp] theorem State.setCarrier_pending (s : State) (c : Nat) (x : Carrier) : (s.setCarrier c x).pending = s.pending := rfl
@[simp] theorem State.setCarrier_frameInput (s : State) (c : Nat) (x : Carrier) : (s.setCarrier c x).frameInput = s.frameInput := rfl
@[simp] theorem State.setCarrier_waiting (s : State) (c : Nat) (x : Carrier) : (s.setCarrier c x).waiting = s.waiting := rfl
@[simp] theorem State.setCarrier_replies (s : State) (c : Nat) (x : Carrier) : (s.setCarrier c x).replies = s.replies := rfl
@[simp] theorem State.setCarrier_restarting (s : State) (c : Nat) (x : Carrier) : (s.setCarrier c x).restarting = s.restarting := rfl
@[simp] theorem State.setCarrier_notices (s : State) (c : Nat) (x : Carrier) : (s.setCarrier c x).notices = s.notices := rfl
@[simp] theorem State.setCarrier_masks (s : State) (c : Nat) (x : Carrier) : (s.setCarrier c x).masks = s.masks := rfl
@[simp] theorem State.setCarrier_summary (s : State) (c : Nat) (x : Carrier) : (s.setCarrier c x).summary = s.summary := rfl
@[simp] theorem State.setCarrier_overflowCount (s : State) (c : Nat) (x : Carrier) : (s.setCarrier c x).overflowCount = s.overflowCount := rfl
@[simp] theorem State.setCarrier_overflowMarker (s : State) (c : Nat) (x : Carrier) : (s.setCarrier c x).overflowMarker = s.overflowMarker := rfl
@[simp] theorem State.setCarrier_overflowTime (s : State) (c : Nat) (x : Carrier) : (s.setCarrier c x).overflowTime = s.overflowTime := rfl
@[simp] theorem State.setCarrier_params (s : State) (c : Nat) (x : Carrier) : (s.setCarrier c x).params = s.params := rfl
@[simp] theorem State.setCarrier_feeds (s : State) (c : Nat) (x : Carrier) : (s.setCarrier c x).feeds = s.feeds := rfl
@[simp] theorem State.setCarrier_paths (s : State) (c : Nat) (x : Carrier) : (s.setCarrier c x).paths = s.paths := rfl
@[simp] theorem State.setCarrier_planMemory (s : State) (c : Nat) (x : Carrier) : (s.setCarrier c x).planMemory = s.planMemory := rfl
@[simp] theorem State.setCarrier_lists (s : State) (c : Nat) (x : Carrier) : (s.setCarrier c x).lists = s.lists := rfl
@[simp] theorem State.setCarrier_tickEnd (s : State) (c : Nat) (x : Carrier) : (s.setCarrier c x).tickEnd = s.tickEnd := rfl
@[simp] theorem State.setCarrier_recheckQueue (s : State) (c : Nat) (x : Carrier) : (s.setCarrier c x).recheckQueue = s.recheckQueue := rfl
@[simp] theorem State.setCarrier_survey (s : State) (c : Nat) (x : Carrier) : (s.setCarrier c x).survey = s.survey := rfl
@[simp] theorem State.setCarrier_services (s : State) (c : Nat) (x : Carrier) : (s.setCarrier c x).services = s.services := rfl
@[simp] theorem State.setCarrier_bindings (s : State) (c : Nat) (x : Carrier) : (s.setCarrier c x).bindings = s.bindings := rfl
@[simp] theorem State.setCarrier_slots (s : State) (c : Nat) (x : Carrier) : (s.setCarrier c x).slots = s.slots := rfl
@[simp] theorem State.setCarrier_shelves (s : State) (c : Nat) (x : Carrier) : (s.setCarrier c x).shelves = s.shelves := rfl
@[simp] theorem State.setCarrier_freeCount (s : State) (c : Nat) (x : Carrier) : (s.setCarrier c x).freeCount = s.freeCount := rfl
@[simp] theorem State.setCarrier_feed (s : State) (c : Nat) (x : Carrier) (j : Fin 6) : (s.setCarrier c x).feed j = s.feed j := rfl
@[simp] theorem State.setCarrier_path (s : State) (c : Nat) (x : Carrier) (j : Fin 8) : (s.setCarrier c x).path j = s.path j := rfl
@[simp] theorem State.setCarrier_sweep (s : State) (c : Nat) (x : Carrier) (j : Fin 8) : (s.setCarrier c x).sweep j = s.sweep j := rfl
@[simp] theorem State.setCarrier_slot (s : State) (c : Nat) (x : Carrier) (j : Fin 64) : (s.setCarrier c x).slot j = s.slot j := rfl
@[simp] theorem State.setCarrier_shelf (s : State) (c : Nat) (x : Carrier) (j : Fin 4) : (s.setCarrier c x).shelf j = s.shelf j := rfl
@[simp] theorem State.setCarrier_service (s : State) (c : Nat) (x : Carrier) (j : Nat) : (s.setCarrier c x).service j = s.service j := rfl

/-! ## setService -/

@[simp] theorem State.setService_clock (s : State) (k : Nat) (x : Service) : (s.setService k x).clock = s.clock := rfl
@[simp] theorem State.setService_pending (s : State) (k : Nat) (x : Service) : (s.setService k x).pending = s.pending := rfl
@[simp] theorem State.setService_frameInput (s : State) (k : Nat) (x : Service) : (s.setService k x).frameInput = s.frameInput := rfl
@[simp] theorem State.setService_waiting (s : State) (k : Nat) (x : Service) : (s.setService k x).waiting = s.waiting := rfl
@[simp] theorem State.setService_replies (s : State) (k : Nat) (x : Service) : (s.setService k x).replies = s.replies := rfl
@[simp] theorem State.setService_restarting (s : State) (k : Nat) (x : Service) : (s.setService k x).restarting = s.restarting := rfl
@[simp] theorem State.setService_notices (s : State) (k : Nat) (x : Service) : (s.setService k x).notices = s.notices := rfl
@[simp] theorem State.setService_masks (s : State) (k : Nat) (x : Service) : (s.setService k x).masks = s.masks := rfl
@[simp] theorem State.setService_summary (s : State) (k : Nat) (x : Service) : (s.setService k x).summary = s.summary := rfl
@[simp] theorem State.setService_overflowCount (s : State) (k : Nat) (x : Service) : (s.setService k x).overflowCount = s.overflowCount := rfl
@[simp] theorem State.setService_overflowMarker (s : State) (k : Nat) (x : Service) : (s.setService k x).overflowMarker = s.overflowMarker := rfl
@[simp] theorem State.setService_overflowTime (s : State) (k : Nat) (x : Service) : (s.setService k x).overflowTime = s.overflowTime := rfl
@[simp] theorem State.setService_params (s : State) (k : Nat) (x : Service) : (s.setService k x).params = s.params := rfl
@[simp] theorem State.setService_carriers (s : State) (k : Nat) (x : Service) : (s.setService k x).carriers = s.carriers := rfl
@[simp] theorem State.setService_feeds (s : State) (k : Nat) (x : Service) : (s.setService k x).feeds = s.feeds := rfl
@[simp] theorem State.setService_paths (s : State) (k : Nat) (x : Service) : (s.setService k x).paths = s.paths := rfl
@[simp] theorem State.setService_planMemory (s : State) (k : Nat) (x : Service) : (s.setService k x).planMemory = s.planMemory := rfl
@[simp] theorem State.setService_lists (s : State) (k : Nat) (x : Service) : (s.setService k x).lists = s.lists := rfl
@[simp] theorem State.setService_tickEnd (s : State) (k : Nat) (x : Service) : (s.setService k x).tickEnd = s.tickEnd := rfl
@[simp] theorem State.setService_recheckQueue (s : State) (k : Nat) (x : Service) : (s.setService k x).recheckQueue = s.recheckQueue := rfl
@[simp] theorem State.setService_survey (s : State) (k : Nat) (x : Service) : (s.setService k x).survey = s.survey := rfl
@[simp] theorem State.setService_bindings (s : State) (k : Nat) (x : Service) : (s.setService k x).bindings = s.bindings := rfl
@[simp] theorem State.setService_slots (s : State) (k : Nat) (x : Service) : (s.setService k x).slots = s.slots := rfl
@[simp] theorem State.setService_shelves (s : State) (k : Nat) (x : Service) : (s.setService k x).shelves = s.shelves := rfl
@[simp] theorem State.setService_freeCount (s : State) (k : Nat) (x : Service) : (s.setService k x).freeCount = s.freeCount := rfl
@[simp] theorem State.setService_feed (s : State) (k : Nat) (x : Service) (j : Fin 6) : (s.setService k x).feed j = s.feed j := rfl
@[simp] theorem State.setService_path (s : State) (k : Nat) (x : Service) (j : Fin 8) : (s.setService k x).path j = s.path j := rfl
@[simp] theorem State.setService_sweep (s : State) (k : Nat) (x : Service) (j : Fin 8) : (s.setService k x).sweep j = s.sweep j := rfl
@[simp] theorem State.setService_slot (s : State) (k : Nat) (x : Service) (j : Fin 64) : (s.setService k x).slot j = s.slot j := rfl
@[simp] theorem State.setService_shelf (s : State) (k : Nat) (x : Service) (j : Fin 4) : (s.setService k x).shelf j = s.shelf j := rfl
@[simp] theorem State.setService_carrier (s : State) (k : Nat) (x : Service) (j : Nat) : (s.setService k x).carrier j = s.carrier j := rfl

/-! ## Writing twice, and writing back -/

theorem tabSet_tabSet {α : Type} {n : Nat} (t : Vector α n) (i : Fin n) (x y : α) :
    tabSet (tabSet t i x) i y = tabSet t i y := by
  simp [tabSet]

theorem tabSet_tabGet {α : Type} {n : Nat} (t : Vector α n) (i : Fin n) : tabSet t i (tabGet t i) = t := by
  simp [tabSet, tabGet]

@[simp] theorem State.setFeed_setFeed (s : State) (f : Fin 6) (x y : Feed) : (s.setFeed f x).setFeed f y = s.setFeed f y := by
  simp [State.setFeed, tabSet_tabSet]

/-- A record written back leaves the state as it is. -/
@[simp] theorem State.setFeed_feed (s : State) (f : Fin 6) : s.setFeed f (s.feed f) = s := by
  simp [State.setFeed, State.feed, tabSet_tabGet]

@[simp] theorem State.setPath_setPath (s : State) (p : Fin 8) (x y : Path) : (s.setPath p x).setPath p y = s.setPath p y := by
  simp [State.setPath, tabSet_tabSet]

/-- A record written back leaves the state as it is. -/
@[simp] theorem State.setPath_path (s : State) (p : Fin 8) : s.setPath p (s.path p) = s := by
  simp [State.setPath, State.path, tabSet_tabGet]

@[simp] theorem State.setSweep_setSweep (s : State) (n : Fin 8) (x y : SweepList) : (s.setSweep n x).setSweep n y = s.setSweep n y := by
  simp [State.setSweep, tabSet_tabSet]

/-- A record written back leaves the state as it is. -/
@[simp] theorem State.setSweep_sweep (s : State) (n : Fin 8) : s.setSweep n (s.sweep n) = s := by
  simp [State.setSweep, State.sweep, tabSet_tabGet]

@[simp] theorem State.setSlot_setSlot (s : State) (i : Fin 64) (x y : Slot) : (s.setSlot i x).setSlot i y = s.setSlot i y := by
  simp [State.setSlot, tabSet_tabSet]

/-- A record written back leaves the state as it is. -/
@[simp] theorem State.setSlot_slot (s : State) (i : Fin 64) : s.setSlot i (s.slot i) = s := by
  simp [State.setSlot, State.slot, tabSet_tabGet]

@[simp] theorem State.setShelf_setShelf (s : State) (h : Fin 4) (x y : Shelf) : (s.setShelf h x).setShelf h y = s.setShelf h y := by
  simp [State.setShelf, tabSet_tabSet]

/-- A record written back leaves the state as it is. -/
@[simp] theorem State.setShelf_shelf (s : State) (h : Fin 4) : s.setShelf h (s.shelf h) = s := by
  simp [State.setShelf, State.shelf, tabSet_tabGet]

end Sys2Proof.Machine
end

