-- ==== Sys2Proof/Laws/Notices.lean ====
section
/-! SUPPORT. Everything a posted event can do: it touches the notice queue, the overflow record and the raw
event summary, and nothing else (R187, R188). -/
namespace Sys2Proof.Machine

/-- Placing an event changes the notice queue and the overflow record alone. -/
theorem State.placeNotice_cases (k : NoticeKind) (o : Nat) (d : List Byte) (s : State) :
    ∃ ns oc om ot, s.placeNotice k o d =
      { s with notices := ns, overflowCount := oc, overflowMarker := om, overflowTime := ot } := by
  unfold State.placeNotice
  dsimp only
  split
  · exact ⟨_, _, _, _, rfl⟩
  · split
    · split <;> exact ⟨_, _, _, _, rfl⟩
    · split
      · exact ⟨_, _, _, _, rfl⟩
      · split <;> exact ⟨_, _, _, _, rfl⟩

/-- Posting an event changes the notice queue, the overflow record and the raw event summary alone. -/
theorem State.post_cases (k : NoticeKind) (o : Nat) (d : List Byte) (s : State) :
    ∃ ns oc om ot sm, s.post k o d =
      { s with notices := ns, overflowCount := oc, overflowMarker := om, overflowTime := ot, summary := sm } := by
  unfold State.post
  dsimp only
  split
  · exact ⟨_, _, _, _, _, rfl⟩
  · obtain ⟨a, b, c, e, h⟩ := State.placeNotice_cases k o d { s with summary := withKind s.summary k }
    exact ⟨a, b, c, e, withKind s.summary k, by rw [h]⟩

@[simp] theorem State.post_clock (k : NoticeKind) (o : Nat) (d : List Byte) (s : State) : (s.post k o d).clock = s.clock := by
  obtain ⟨_, _, _, _, _, h⟩ := State.post_cases k o d s; rw [h]
@[simp] theorem State.post_pending (k : NoticeKind) (o : Nat) (d : List Byte) (s : State) : (s.post k o d).pending = s.pending := by
  obtain ⟨_, _, _, _, _, h⟩ := State.post_cases k o d s; rw [h]
@[simp] theorem State.post_frameInput (k : NoticeKind) (o : Nat) (d : List Byte) (s : State) : (s.post k o d).frameInput = s.frameInput := by
  obtain ⟨_, _, _, _, _, h⟩ := State.post_cases k o d s; rw [h]
@[simp] theorem State.post_waiting (k : NoticeKind) (o : Nat) (d : List Byte) (s : State) : (s.post k o d).waiting = s.waiting := by
  obtain ⟨_, _, _, _, _, h⟩ := State.post_cases k o d s; rw [h]
@[simp] theorem State.post_replies (k : NoticeKind) (o : Nat) (d : List Byte) (s : State) : (s.post k o d).replies = s.replies := by
  obtain ⟨_, _, _, _, _, h⟩ := State.post_cases k o d s; rw [h]
@[simp] theorem State.post_restarting (k : NoticeKind) (o : Nat) (d : List Byte) (s : State) : (s.post k o d).restarting = s.restarting := by
  obtain ⟨_, _, _, _, _, h⟩ := State.post_cases k o d s; rw [h]
@[simp] theorem State.post_masks (k : NoticeKind) (o : Nat) (d : List Byte) (s : State) : (s.post k o d).masks = s.masks := by
  obtain ⟨_, _, _, _, _, h⟩ := State.post_cases k o d s; rw [h]
@[simp] theorem State.post_params (k : NoticeKind) (o : Nat) (d : List Byte) (s : State) : (s.post k o d).params = s.params := by
  obtain ⟨_, _, _, _, _, h⟩ := State.post_cases k o d s; rw [h]
@[simp] theorem State.post_carriers (k : NoticeKind) (o : Nat) (d : List Byte) (s : State) : (s.post k o d).carriers = s.carriers := by
  obtain ⟨_, _, _, _, _, h⟩ := State.post_cases k o d s; rw [h]
@[simp] theorem State.post_feeds (k : NoticeKind) (o : Nat) (d : List Byte) (s : State) : (s.post k o d).feeds = s.feeds := by
  obtain ⟨_, _, _, _, _, h⟩ := State.post_cases k o d s; rw [h]
@[simp] theorem State.post_paths (k : NoticeKind) (o : Nat) (d : List Byte) (s : State) : (s.post k o d).paths = s.paths := by
  obtain ⟨_, _, _, _, _, h⟩ := State.post_cases k o d s; rw [h]
@[simp] theorem State.post_planMemory (k : NoticeKind) (o : Nat) (d : List Byte) (s : State) : (s.post k o d).planMemory = s.planMemory := by
  obtain ⟨_, _, _, _, _, h⟩ := State.post_cases k o d s; rw [h]
@[simp] theorem State.post_lists (k : NoticeKind) (o : Nat) (d : List Byte) (s : State) : (s.post k o d).lists = s.lists := by
  obtain ⟨_, _, _, _, _, h⟩ := State.post_cases k o d s; rw [h]
@[simp] theorem State.post_tickEnd (k : NoticeKind) (o : Nat) (d : List Byte) (s : State) : (s.post k o d).tickEnd = s.tickEnd := by
  obtain ⟨_, _, _, _, _, h⟩ := State.post_cases k o d s; rw [h]
@[simp] theorem State.post_recheckQueue (k : NoticeKind) (o : Nat) (d : List Byte) (s : State) : (s.post k o d).recheckQueue = s.recheckQueue := by
  obtain ⟨_, _, _, _, _, h⟩ := State.post_cases k o d s; rw [h]
@[simp] theorem State.post_survey (k : NoticeKind) (o : Nat) (d : List Byte) (s : State) : (s.post k o d).survey = s.survey := by
  obtain ⟨_, _, _, _, _, h⟩ := State.post_cases k o d s; rw [h]
@[simp] theorem State.post_services (k : NoticeKind) (o : Nat) (d : List Byte) (s : State) : (s.post k o d).services = s.services := by
  obtain ⟨_, _, _, _, _, h⟩ := State.post_cases k o d s; rw [h]
@[simp] theorem State.post_bindings (k : NoticeKind) (o : Nat) (d : List Byte) (s : State) : (s.post k o d).bindings = s.bindings := by
  obtain ⟨_, _, _, _, _, h⟩ := State.post_cases k o d s; rw [h]
@[simp] theorem State.post_slots (k : NoticeKind) (o : Nat) (d : List Byte) (s : State) : (s.post k o d).slots = s.slots := by
  obtain ⟨_, _, _, _, _, h⟩ := State.post_cases k o d s; rw [h]
@[simp] theorem State.post_shelves (k : NoticeKind) (o : Nat) (d : List Byte) (s : State) : (s.post k o d).shelves = s.shelves := by
  obtain ⟨_, _, _, _, _, h⟩ := State.post_cases k o d s; rw [h]
@[simp] theorem State.post_freeCount (k : NoticeKind) (o : Nat) (d : List Byte) (s : State) : (s.post k o d).freeCount = s.freeCount := by
  obtain ⟨_, _, _, _, _, h⟩ := State.post_cases k o d s; rw [h]
@[simp] theorem State.post_feed (k : NoticeKind) (o : Nat) (d : List Byte) (s : State) (j : Fin 6) : (s.post k o d).feed j = s.feed j := by
  obtain ⟨_, _, _, _, _, h⟩ := State.post_cases k o d s; rw [h]; rfl
@[simp] theorem State.post_path (k : NoticeKind) (o : Nat) (d : List Byte) (s : State) (j : Fin 8) : (s.post k o d).path j = s.path j := by
  obtain ⟨_, _, _, _, _, h⟩ := State.post_cases k o d s; rw [h]; rfl
@[simp] theorem State.post_sweep (k : NoticeKind) (o : Nat) (d : List Byte) (s : State) (j : Fin 8) : (s.post k o d).sweep j = s.sweep j := by
  obtain ⟨_, _, _, _, _, h⟩ := State.post_cases k o d s; rw [h]; rfl
@[simp] theorem State.post_slot (k : NoticeKind) (o : Nat) (d : List Byte) (s : State) (j : Fin 64) : (s.post k o d).slot j = s.slot j := by
  obtain ⟨_, _, _, _, _, h⟩ := State.post_cases k o d s; rw [h]; rfl
@[simp] theorem State.post_shelf (k : NoticeKind) (o : Nat) (d : List Byte) (s : State) (j : Fin 4) : (s.post k o d).shelf j = s.shelf j := by
  obtain ⟨_, _, _, _, _, h⟩ := State.post_cases k o d s; rw [h]; rfl
@[simp] theorem State.post_carrier (k : NoticeKind) (o : Nat) (d : List Byte) (s : State) (j : Nat) : (s.post k o d).carrier j = s.carrier j := by
  obtain ⟨_, _, _, _, _, h⟩ := State.post_cases k o d s; rw [h]; rfl
@[simp] theorem State.post_service (k : NoticeKind) (o : Nat) (d : List Byte) (s : State) (j : Nat) : (s.post k o d).service j = s.service j := by
  obtain ⟨_, _, _, _, _, h⟩ := State.post_cases k o d s; rw [h]; rfl

end Sys2Proof.Machine
end

