-- ==== Sys2Proof/Laws/Store.lean ====
section
/-! SUPPORT. The laws of the sparse tables: a read after a write, and the canonical form, which every operation
keeps (the Carrier Table, Plan Memory and the service table are such tables). -/
namespace Sys2Proof.Machine

theorem Store.find_put_self {α : Type} (t : Store α) (i : Nat) (v : α) : Store.find (Store.put t i v) i = some v := by
  induction t with
  | nil => simp [Store.put, Store.find]
  | cons e r ih =>
    obtain ⟨k, w⟩ := e
    simp only [Store.put]
    split
    · simp [Store.find]
    · split
      · simp [Store.find]
      · rename_i h1 h2
        simp only [Store.find, ih]
        rw [if_neg (fun e => h2 e.symm)]

theorem Store.find_put_ne {α : Type} (t : Store α) (i j : Nat) (v : α) (h : j ≠ i) :
    Store.find (Store.put t i v) j = Store.find t j := by
  induction t with
  | nil => simp [Store.put, Store.find, Ne.symm h]
  | cons e r ih =>
    obtain ⟨k, w⟩ := e
    simp only [Store.put]
    split
    · simp [Store.find, Ne.symm h]
    · split
      · subst_vars; simp [Store.find, Ne.symm h]
      · simp only [Store.find, ih]

theorem Store.find_put {α : Type} (t : Store α) (i j : Nat) (v : α) :
    Store.find (Store.put t i v) j = if j = i then some v else Store.find t j := by
  by_cases h : j = i
  · rw [if_pos h, h, Store.find_put_self]
  · rw [if_neg h, Store.find_put_ne t i j v h]

theorem Store.find_del_self {α : Type} (t : Store α) (i : Nat) : Store.find (Store.del t i) i = none := by
  induction t with
  | nil => rfl
  | cons e r ih =>
    obtain ⟨k, w⟩ := e
    by_cases hk : k = i
    · simpa [Store.del, hk] using ih
    · simpa [Store.del, Store.find, hk] using ih

theorem Store.find_del_ne {α : Type} (t : Store α) (i j : Nat) (h : j ≠ i) :
    Store.find (Store.del t i) j = Store.find t j := by
  induction t with
  | nil => rfl
  | cons e r ih =>
    obtain ⟨k, w⟩ := e
    by_cases hk : k = i
    · simp only [Store.del, hk] at ih ⊢
      simpa [Store.find, Ne.symm h] using ih
    · simp only [Store.del, Store.find] at ih ⊢
      simp [Store.find, hk, ih]

theorem Store.find_del {α : Type} (t : Store α) (i j : Nat) :
    Store.find (Store.del t i) j = if j = i then none else Store.find t j := by
  by_cases h : j = i
  · rw [if_pos h, h, Store.find_del_self]
  · rw [if_neg h, Store.find_del_ne t i j h]

/-! ## The canonical form -/

/-- Numbers rise strictly, from above `b`. -/
def Store.above {α : Type} : Nat → Store α → Bool
  | _, [] => true
  | b, (k, _) :: r => decide (b < k) && Store.above k r

theorem Store.wf_cons {α : Type} (k : Nat) (v : α) (r : Store α) :
    Store.wf ((k, v) :: r) = Store.above k r := by
  induction r generalizing k v with
  | nil => rfl
  | cons e r ih => obtain ⟨j, w⟩ := e; simp [Store.wf, Store.above, ih]

theorem Store.above_mono {α : Type} {a b : Nat} (hab : a ≤ b) (t : Store α) (h : Store.above b t = true) :
    Store.above a t = true := by
  cases t with
  | nil => rfl
  | cons e r =>
    obtain ⟨k, w⟩ := e
    simp only [Store.above, Bool.and_eq_true, decide_eq_true_eq] at h ⊢
    exact ⟨by omega, h.2⟩

theorem Store.above_put {α : Type} (t : Store α) (b i : Nat) (v : α) (hi : b < i) (h : Store.above b t = true) :
    Store.above b (Store.put t i v) = true := by
  induction t generalizing b with
  | nil => simp [Store.put, Store.above, hi]
  | cons e r ih =>
    obtain ⟨k, w⟩ := e
    simp only [Store.above, Bool.and_eq_true, decide_eq_true_eq] at h
    simp only [Store.put]
    split
    · simp only [Store.above, Bool.and_eq_true, decide_eq_true_eq]; exact ⟨hi, by assumption, h.2⟩
    · split
      · subst_vars; simp only [Store.above, Bool.and_eq_true, decide_eq_true_eq]; exact ⟨hi, h.2⟩
      · simp only [Store.above, Bool.and_eq_true, decide_eq_true_eq]; exact ⟨h.1, ih k (by omega) h.2⟩

theorem Store.above_del {α : Type} (t : Store α) (b i : Nat) (h : Store.above b t = true) :
    Store.above b (Store.del t i) = true := by
  induction t generalizing b with
  | nil => rfl
  | cons e r ih =>
    obtain ⟨k, w⟩ := e
    simp only [Store.above, Bool.and_eq_true, decide_eq_true_eq] at h
    by_cases hk : k = i
    · simpa [Store.del, hk] using ih b (Store.above_mono (Nat.le_of_lt h.1) r h.2)
    · have := ih k h.2
      simp only [Store.del] at this ⊢
      simp [Store.above, hk, h.1, this]

/-- A write keeps the canonical form. -/
theorem Store.wf_put {α : Type} (t : Store α) (i : Nat) (v : α) (h : Store.wf t = true) :
    Store.wf (Store.put t i v) = true := by
  cases t with
  | nil => rfl
  | cons e r =>
    obtain ⟨k, w⟩ := e
    rw [Store.wf_cons] at h
    simp only [Store.put]
    split
    · rw [Store.wf_cons]; simpa [Store.above, h]
    · split
      · subst_vars; rw [Store.wf_cons]; exact h
      · rw [Store.wf_cons]; exact Store.above_put r k i v (by omega) h

/-- A removal keeps the canonical form. -/
theorem Store.wf_del {α : Type} (t : Store α) (i : Nat) (h : Store.wf t = true) : Store.wf (Store.del t i) = true := by
  induction t with
  | nil => rfl
  | cons e r ih =>
    obtain ⟨k, w⟩ := e
    rw [Store.wf_cons] at h
    by_cases hk : k = i
    · have hr : Store.wf r = true := by
        cases r with
        | nil => rfl
        | cons e' r' =>
          obtain ⟨j, x⟩ := e'
          rw [Store.wf_cons]
          simp only [Store.above, Bool.and_eq_true] at h; exact h.2
      simpa [Store.del, hk] using ih hr
    · have := Store.above_del r k i h
      have e : Store.del ((k, w) :: r) i = (k, w) :: Store.del r i := by simp [Store.del, hk]
      rw [e, Store.wf_cons]; exact this

/-- The tables of the module are in canonical form at cold start. -/
theorem State.reset_tables_wf :
    Store.wf State.reset.carriers = true ∧ Store.wf State.reset.planMemory = true
      ∧ Store.wf State.reset.services = true := by decide

/-! ## Carriers and services -/

@[simp] theorem State.carrier_setCarrier_self (s : State) (c : Nat) (x : Carrier) :
    (s.setCarrier c x).carrier c = some x := Store.find_put_self _ _ _

theorem State.carrier_setCarrier_ne (s : State) {c d : Nat} (x : Carrier) (h : d ≠ c) :
    (s.setCarrier c x).carrier d = s.carrier d := Store.find_put_ne _ _ _ _ h

@[simp] theorem State.service_setService_self (s : State) (k : Nat) (x : Service) :
    (s.setService k x).service k = some x := Store.find_put_self _ _ _

theorem State.service_setService_ne (s : State) {k j : Nat} (x : Service) (h : j ≠ k) :
    (s.setService k x).service j = s.service j := Store.find_put_ne _ _ _ _ h

/-- Of two writes at one number the later stands. -/
theorem Store.put_put {α : Type} (t : Store α) (i : Nat) (v w : α) :
    Store.put (Store.put t i v) i w = Store.put t i w := by
  induction t with
  | nil => simp [Store.put]
  | cons e r ih =>
    obtain ⟨k, x⟩ := e
    simp only [Store.put]
    split
    · simp [Store.put]
    · split
      · rename_i _ h; subst h; simp [Store.put]
      · rename_i h1 h2; simp [Store.put, h1, h2, ih]

@[simp] theorem State.setCarrier_setCarrier (s : State) (c : Nat) (x y : Carrier) :
    (s.setCarrier c x).setCarrier c y = s.setCarrier c y := by simp [State.setCarrier, Store.put_put]

/-- An entry of a table is found at its number. -/
theorem Store.find_isSome_of_mem {α : Type} {t : Store α} {e : Nat × α} (h : e ∈ t) :
    (Store.find t e.1).isSome = true := by
  induction t with
  | nil => cases h
  | cons a r ih =>
    obtain ⟨k, v⟩ := a
    simp only [Store.find]
    split
    · rfl
    · rcases List.mem_cons.1 h with rfl | h
      · exact absurd rfl (by assumption)
      · exact ih h

end Sys2Proof.Machine
end

