-- ==== Sys2Proof/Laws/Frames.lean ====
section
/-! SUPPORT. Everything the sweep can do: each operation of the lists, the feeds, the paths and the Sweep Engine
keeps `SweepFrame`. -/
namespace Sys2Proof.Machine

variable {a : Bool}

theorem SweepFrame.refl (s : State) : SweepFrame a s s where
  clock := rfl
  pending := rfl
  frameInput := rfl
  waiting := rfl
  replies := rfl
  restarting := rfl
  masks := rfl
  params := rfl
  carriers := rfl
  planMemory := rfl
  tickEnd := rfl
  services := rfl
  bindings := rfl
  slots := rfl
  shelves := rfl
  feeds _ := ⟨rfl, rfl, rfl, rfl⟩
  offFeed _ _ _ := rfl
  survey := .inl rfl
  still _ _ := rfl
  queue _ h := .inl h

theorem State.enabled_congr {s t : State} (h : t.carriers = s.carriers) (c : Nat) : t.enabled c = s.enabled c := by
  unfold State.enabled State.carrier; rw [h]

theorem SweepFrame.trans {s t u : State} (h1 : SweepFrame a s t) (h2 : SweepFrame a t u) : SweepFrame a s u where
  clock := h2.clock.trans h1.clock
  pending := h2.pending.trans h1.pending
  frameInput := h2.frameInput.trans h1.frameInput
  waiting := h2.waiting.trans h1.waiting
  replies := h2.replies.trans h1.replies
  restarting := h2.restarting.trans h1.restarting
  masks := h2.masks.trans h1.masks
  params := h2.params.trans h1.params
  carriers := h2.carriers.trans h1.carriers
  planMemory := h2.planMemory.trans h1.planMemory
  tickEnd := h2.tickEnd.trans h1.tickEnd
  services := h2.services.trans h1.services
  bindings := h2.bindings.trans h1.bindings
  slots := h2.slots.trans h1.slots
  shelves := h2.shelves.trans h1.shelves
  feeds f := ⟨(h2.feeds f).1.trans (h1.feeds f).1, (h2.feeds f).2.1.trans (h1.feeds f).2.1,
    (h2.feeds f).2.2.1.trans (h1.feeds f).2.2.1, (h2.feeds f).2.2.2.trans (h1.feeds f).2.2.2⟩
  offFeed f ho hw := by
    have h := h1.offFeed f ho hw
    rw [h2.offFeed f (by rw [h]; exact ho) (by rw [h]; exact hw), h]
  survey := by
    rcases h1.survey with h | ⟨h, h'⟩
    · rcases h2.survey with k | ⟨k, k'⟩
      · exact .inl (k.trans h)
      · exact .inr ⟨h ▸ k, k'⟩
    · rcases h2.survey with k | ⟨k, _⟩
      · exact .inr ⟨h, k.trans h'⟩
      · rw [h'] at k; cases k
  still n h := by
    have e := h1.still n h
    rw [h2.still n (by rw [e]; exact h), e]
  queue e h := by
    rcases h2.queue e h with k | ⟨k, k'⟩
    · exact h1.queue e k
    · exact .inr ⟨k, by rw [← State.enabled_congr h1.carriers]; exact k'⟩

/-! ## The updates -/

theorem State.post_frame (k : NoticeKind) (o : Nat) (d : List Byte) (s : State) : SweepFrame a s (s.post k o d) := by
  obtain ⟨_, _, _, _, _, h⟩ := State.post_cases k o d s
  rw [h]
  exact { SweepFrame.refl s with }

theorem State.setPath_frame (p : Fin 8) (x : Path) (s : State) : SweepFrame a s (s.setPath p x) :=
  { SweepFrame.refl s with }

theorem State.setSweep_frame (n : Fin 8) (x : SweepList) (s : State)
    (h : (s.sweep n).still → x = s.sweep n) : SweepFrame a s (s.setSweep n x) :=
  { SweepFrame.refl s with
    still := fun m hm => by
      by_cases e : m = n
      · subst e; rw [State.sweep_setSweep_self]; exact h hm
      · rw [State.sweep_setSweep_ne _ _ e] }

theorem State.setFeed_frame (f : Fin 6) (x : Feed) (s : State) (hk : x.kind = (s.feed f).kind)
    (hs : x.supply = (s.feed f).supply) (hp : x.preference = (s.feed f).preference)
    (hc : x.faultCount = (s.feed f).faultCount)
    (ho : (s.feed f).state = .off → (s.feed f).waiting = [] → x = s.feed f) : SweepFrame a s (s.setFeed f x) :=
  { SweepFrame.refl s with
    feeds := fun g => by
      by_cases e : g = f
      · subst e; rw [State.feed_setFeed_self]; exact ⟨hk, hs, hp, hc⟩
      · rw [State.feed_setFeed_ne _ _ e]; exact ⟨rfl, rfl, rfl, rfl⟩
    offFeed := fun g h1 h2 => by
      by_cases e : g = f
      · subst e; rw [State.feed_setFeed_self]; exact ho h1 h2
      · rw [State.feed_setFeed_ne _ _ e] }

theorem State.setQueue_frame (q : List Recheck) (s : State)
    (h : ∀ e ∈ q, e ∈ s.recheckQueue ∨ a = true ∧ s.enabled e.carrier = true) : SweepFrame a s { s with recheckQueue := q } :=
  { SweepFrame.refl (a := a) s with queue := h }

theorem State.setFree_frame (n : Nat) (s : State) : SweepFrame a s { s with freeCount := n } :=
  { SweepFrame.refl s with }

/-! ## Lists -/

theorem SweepList.suspend_still {l : SweepList} (h : l.still) : l.suspend = l := by
  unfold SweepList.suspend; rw [h.1]

theorem SweepList.unsuspend_still {l : SweepList} (t : Stamp) (h : l.still) : l.unsuspend t = l := by
  unfold SweepList.unsuspend; rw [h.1]

theorem State.entryResult_frame (n : Fin 8) (o : MeasOutcome) (s : State) : SweepFrame a s (s.entryResult n o) := by
  unfold State.entryResult
  dsimp only
  split
  · rename_i e hst _
    have hne : ¬ (s.sweep n).still := fun h => by rw [h.2.1] at hst; cases hst
    split
    · exact State.setSweep_frame _ _ _ fun h => absurd h hne
    · split
      · exact (State.post_frame _ _ _ _).trans (State.setSweep_frame _ _ _ fun h => absurd h (by simpa using hne))
      · exact State.setSweep_frame _ _ _ fun h => absurd h hne
  · exact .refl s

theorem State.endLoan_frame (n : Fin 8) (s : State) (hl : (s.sweep n).loan ≠ none) : SweepFrame a s (s.endLoan n) :=
  State.setSweep_frame _ _ _ fun h => absurd h.2.2 hl

theorem State.loanResult_frame (n : Fin 8) (s : State) : SweepFrame a s (s.loanResult n) := by
  unfold State.loanResult
  split
  · rename_i h; exact State.endLoan_frame n s (by rw [h]; simp)
  · exact .refl s

theorem State.leaveList_frame (n : Fin 8) (s : State) : SweepFrame a s (s.leaveList n) := by
  unfold State.leaveList
  exact State.setSweep_frame _ _ _ fun h => by simp [SweepList.suspend_still h, h.2.2]

theorem State.joinList_frame (n : Fin 8) (s : State) : SweepFrame a s (s.joinList n) := by
  unfold State.joinList
  split
  · exact State.setSweep_frame _ _ _ fun h => SweepList.unsuspend_still _ h
  all_goals exact .refl s

theorem State.setMode_frame (p : Fin 8) (m : PathMode) (s : State) : SweepFrame a s (s.setMode p m) := by
  unfold State.setMode
  dsimp only
  split
  · exact (State.setPath_frame _ _ _).trans (State.joinList_frame _ _)
  all_goals exact (State.setPath_frame _ _ _).trans (State.leaveList_frame _ _)

/-! ## Feeds -/

theorem State.startTune_frame (p : Fin 8) (f : Fin 6) (s : State) : SweepFrame a s (s.startTune p f) :=
  State.setPath_frame _ _ _

theorem State.grant_frame (p : Fin 8) (f : Fin 6) (s : State) (hf : (s.feed f).state ≠ .off) :
    SweepFrame a s (s.grant p f) := by
  have h1 := State.setFeed_frame (a := a) f { s.feed f with lastTuneStart := some (s.tuneStartAt f) } s rfl rfl rfl rfl
    fun h => absurd h hf
  unfold State.grant
  dsimp only
  split
  · exact (h1.trans (State.setPath_frame _ _ _)).trans (State.startTune_frame _ _ _)
  · exact h1.trans (State.setPath_frame _ _ _)

theorem State.changeSetting_frame (f : Fin 6) (x : Option Setting) (s : State) (hf : (s.feed f).state ≠ .off) :
    SweepFrame a s (s.changeSetting f x) :=
  State.setFeed_frame _ _ _ rfl rfl rfl rfl fun h => absurd h hf

theorem State.setWaiting_frame (f : Fin 6) (w : List (Fin 8)) (s : State)
    (h : (s.feed f).state = .off → (s.feed f).waiting = [] → w = []) : SweepFrame a s (s.setWaiting f w) :=
  State.setFeed_frame _ _ _ rfl rfl rfl rfl fun h1 h2 => by
    rw [h h1 h2, ← h2]

@[simp] theorem State.setWaiting_feed_state (f : Fin 6) (w : List (Fin 8)) (s : State) :
    ((s.setWaiting f w).feed f).state = (s.feed f).state := by simp [State.setWaiting]

@[simp] theorem State.grant_feed_state (p : Fin 8) (f : Fin 6) (s : State) :
    ((s.grant p f).feed f).state = (s.feed f).state := by
  unfold State.grant
  dsimp only
  split <;> simp [State.startTune]

theorem State.serveFrom_frame (f : Fin 6) (w : List (Fin 8)) (s : State) (hf : (s.feed f).state ≠ .off) :
    SweepFrame a s (s.serveFrom f w) := by
  induction w generalizing s with
  | nil => exact .refl s
  | cons p r ih =>
    unfold State.serveFrom
    split
    · split
      · have h1 := State.setWaiting_frame (a := a) f r s fun h => absurd h hf
        have h2 := State.grant_frame (a := a) p f (s.setWaiting f r) (by simpa using hf)
        exact (h1.trans h2).trans (ih _ (by simpa using hf))
      · exact .refl s
    · split
      · exact State.changeSetting_frame _ _ _ hf
      · exact .refl s

theorem State.serve_frame (f : Fin 6) (s : State) : SweepFrame a s (s.serve f) := by
  unfold State.serve
  split
  · rename_i h; exact State.serveFrom_frame _ _ _ (by rw [h]; simp)
  · exact .refl s

theorem State.scanFrom_frame (f : Fin 6) (w : List (Fin 8)) (s : State) (hf : (s.feed f).state ≠ .off) :
    SweepFrame a s (s.scanFrom f w) ∧ ((s.scanFrom f w).feed f).state = (s.feed f).state := by
  induction w generalizing s with
  | nil => exact ⟨.refl s, rfl⟩
  | cons p r ih =>
    unfold State.scanFrom
    split
    · have h1 := State.setWaiting_frame (a := a) f ((s.feed f).waiting.filter fun q => decide (q ≠ p)) s fun h => absurd h hf
      have h2 := State.grant_frame (a := a) p f (s.setWaiting f ((s.feed f).waiting.filter fun q => decide (q ≠ p)))
        (by simpa using hf)
      obtain ⟨h3, h4⟩ := ih ((s.setWaiting f ((s.feed f).waiting.filter fun q => decide (q ≠ p))).grant p f)
        (by simpa using hf)
      exact ⟨(h1.trans h2).trans h3, h4.trans (by simp)⟩
    · exact ih s hf

theorem State.scan_frame (f : Fin 6) (s : State) (hf : (s.feed f).state ≠ .off) : SweepFrame a s (s.scan f) := by
  obtain ⟨h1, h2⟩ := State.scanFrom_frame f (s.feed f).waiting s hf
  unfold State.scan
  dsimp only
  split
  · exact h1
  · split
    · exact h1.trans (State.changeSetting_frame _ _ _ (by rw [h2]; exact hf))
    · exact h1

theorem State.attach_frame (p : Fin 8) (f : Fin 6) (s : State) (hf : (s.feed f).state ≠ .off) :
    SweepFrame a s (s.attach p f) := by
  unfold State.attach
  dsimp only
  have hw : ∀ w, SweepFrame a s (s.setWaiting f w) := fun w => State.setWaiting_frame f w s fun h => absurd h hf
  split
  · split
    · split
      · exact State.grant_frame _ _ _ hf
      · exact hw _
    · split
      · exact (hw _).trans (State.changeSetting_frame _ _ _ (by simpa using hf))
      · exact hw _
  · exact hw _

theorem State.leaveWaiting_frame (p : Fin 8) (f : Fin 6) (s : State) : SweepFrame a s (s.leaveWaiting p f) := by
  have h := State.setWaiting_frame (a := a) f ((s.feed f).waiting.filter fun q => decide (q ≠ p)) s fun _ h => by simp [h]
  unfold State.leaveWaiting
  dsimp only
  split
  · exact h.trans (State.serve_frame _ _)
  · exact h

/-! ## Paths -/

theorem State.toRequester_frame (r : Result) (s : State) : SweepFrame a s (s.toRequester r) := by
  unfold State.toRequester
  split
  · exact State.post_frame _ _ _ _
  · exact State.entryResult_frame _ _ _
  · exact State.loanResult_frame _ _

theorem State.deliver_frame (r : Result) (s : State) : SweepFrame a s (s.deliver r) := by
  unfold State.deliver
  dsimp only
  split
  · exact (State.toRequester_frame _ _).trans (State.setPath_frame _ _ _)
  · exact State.toRequester_frame _ _

theorem State.endUnstarted_frame (p : Fin 8) (c : Option Nat) (m : Option Meas) (o : MeasOutcome) (s : State) :
    SweepFrame a s (s.endUnstarted p c m o) := by
  unfold State.endUnstarted
  split
  · exact State.deliver_frame _ _
  · exact .refl s

theorem State.tuneFails_frame (p : Fin 8) (c : Nat) (q : Requester) (m : Option Meas) (s : State) :
    SweepFrame a s (s.tuneFails p c q m) := by
  unfold State.tuneFails
  split <;> exact State.deliver_frame _ _

theorem State.enterParked_frame (p : Fin 8) (s : State) : SweepFrame a s (s.enterParked p) := by
  unfold State.enterParked
  dsimp only
  split
  · exact (State.setPath_frame _ _ _).trans (State.setMode_frame _ _ _)
  · exact State.setPath_frame _ _ _

theorem State.detach_frame (p : Fin 8) (s : State) : SweepFrame a s (s.detach p) := by
  unfold State.detach
  dsimp only
  split
  · exact (State.setPath_frame _ _ _).trans (State.serve_frame _ _)
  · exact State.setPath_frame _ _ _

theorem State.tryDetach_frame (p : Fin 8) (s : State) : SweepFrame a s (s.tryDetach p) := by
  unfold State.tryDetach
  dsimp only
  split
  · split
    · exact State.detach_frame _ _
    · exact .refl s
  · exact .refl s

theorem State.startRelease_frame (p : Fin 8) (s : State) : SweepFrame a s (s.startRelease p) :=
  (State.setPath_frame _ _ _).trans (State.tryDetach_frame _ _)

theorem State.takeRelease_frame (p : Fin 8) (s : State) : SweepFrame a s (s.takeRelease p) := by
  unfold State.takeRelease
  dsimp only
  split
  · exact .refl s
  · exact .refl s
  · split
    · exact (State.setPath_frame _ _ _).trans (State.endUnstarted_frame _ _ _ _ _)
    · exact .refl s
  · refine SweepFrame.trans ?_ (State.endUnstarted_frame _ _ _ _ _)
    split
    · exact State.detach_frame _ _
    · exact (State.leaveWaiting_frame _ _ _).trans (State.detach_frame _ _)
    · exact State.detach_frame _ _
  · exact (State.endUnstarted_frame _ _ _ _ _).trans (State.startRelease_frame _ _)
  · exact (State.endUnstarted_frame _ _ _ _ _).trans (State.startRelease_frame _ _)
  · exact State.startRelease_frame _ _
  · refine SweepFrame.trans ?_ ((State.endUnstarted_frame _ _ _ _ _).trans (State.startRelease_frame _ _))
    split
    · exact State.deliver_frame _ _
    · exact .refl s

theorem State.startWindow_frame (p : Fin 8) (m : Meas) (n : Nat) (b : Stamp) (s : State) :
    SweepFrame a s (s.startWindow p m n b) := State.setPath_frame _ _ _

theorem State.takeMeasure_frame (p : Fin 8) (m : Meas) (s : State) : SweepFrame a s (s.takeMeasure p m) := by
  unfold State.takeMeasure
  dsimp only
  split
  case h_5 => split <;> first | exact State.setPath_frame _ _ _ | exact .refl s
  all_goals first | exact State.setPath_frame _ _ _ | exact State.startWindow_frame _ _ _ _ _ | exact .refl s

theorem State.endWindow_frame (p : Fin 8) (o : MeasOutcome) (an : Option Announcement) (b : Stamp) (s : State) :
    SweepFrame a s (s.endWindow p o an b) := by
  unfold State.endWindow
  split
  · dsimp only
    split
    · exact (State.deliver_frame _ _).trans (State.startWindow_frame _ _ _ _ _)
    · split
      · exact (State.deliver_frame _ _).trans (State.startRelease_frame _ _)
      · exact (State.deliver_frame _ _).trans (State.setPath_frame _ _ _)
  · exact .refl s

theorem State.cutWindow_frame (p : Fin 8) (o : MeasOutcome) (b : Stamp) (s : State) :
    SweepFrame a s (s.cutWindow p o b) :=
  (State.endWindow_frame _ _ _ _ _).trans (State.setPath_frame _ _ _)

theorem State.endLeadIn_frame (p : Fin 8) (w : Window) (b : Stamp) (s : State) :
    SweepFrame a s (s.endLeadIn p w b) := by
  unfold State.endLeadIn
  dsimp only
  split <;> exact State.setPath_frame _ _ _

theorem State.endCounted_frame (p : Fin 8) (w : Window) (x : PathSample) (b : Stamp) (s : State) :
    SweepFrame a s (s.endCounted p w x b) := by
  unfold State.endCounted
  dsimp only
  split
  · exact State.setPath_frame _ _ _
  · split
    · exact (State.setPath_frame _ _ _).trans (State.cutWindow_frame _ _ _ _)
    · split
      · exact (State.setPath_frame _ _ _).trans (State.endWindow_frame _ _ _ _ _)
      · exact State.setPath_frame _ _ _

theorem State.takeTune_frame (p : Fin 8) (c : Nat) (q : Requester) (m : Option Meas) (s : State) :
    SweepFrame a s (s.takeTune p c q m) := by
  unfold State.takeTune
  split
  · exact (State.tuneFails_frame _ _ _ _ _).trans (State.enterParked_frame _ _)
  · split
    · exact (State.tuneFails_frame _ _ _ _ _).trans (State.enterParked_frame _ _)
    · rename_i h
      exact (State.setPath_frame _ _ _).trans (State.attach_frame _ _ _ h)

theorem State.tune_frame (p : Fin 8) (c : Nat) (q : Requester) (m : Option Meas) (s : State) :
    SweepFrame a s (s.tune p c q m) := by
  unfold State.tune
  split
  · exact State.setPath_frame _ _ _
  · exact State.takeTune_frame _ _ _ _ _

theorem State.startHeldTune_frame (p : Fin 8) (t : HeldTune) (s : State) : SweepFrame a s (s.startHeldTune p t) := by
  unfold State.startHeldTune
  dsimp only
  split
  · exact ((State.setPath_frame _ _ _).trans (State.tuneFails_frame _ _ _ _ _)).trans (State.enterParked_frame _ _)
  · exact (State.setPath_frame _ _ _).trans (State.takeTune_frame _ _ _ _ _)

theorem State.cutOff_frame (p : Fin 8) (s : State) : SweepFrame a s (s.cutOff p) := by
  unfold State.cutOff
  dsimp only
  split
  · exact (State.tuneFails_frame _ _ _ _ _).trans (State.enterParked_frame _ _)
  · exact State.enterParked_frame _ _

theorem State.lock_frame (p : Fin 8) (s : State) : SweepFrame a s (s.lock p) := by
  unfold State.lock
  dsimp only
  split
  · exact (State.setPath_frame _ _ _).trans (State.startWindow_frame _ _ _ _ _)
  · exact State.setPath_frame _ _ _

theorem State.lockFails_frame (p : Fin 8) (s : State) : SweepFrame a s (s.lockFails p) := by
  unfold State.lockFails
  dsimp only
  split
  · exact ((State.setPath_frame _ _ _).trans (State.tuneFails_frame _ _ _ _ _)).trans (State.startRelease_frame _ _)
  · exact (State.setPath_frame _ _ _).trans (State.startRelease_frame _ _)

/-! ## The Sweep Engine -/

theorem State.driveAs_frame (d : Drive) (p : Fin 8) (c : Nat) (m : Meas) (s : State) :
    SweepFrame a s (s.driveAs d p c m) := by
  unfold State.driveAs
  split
  · exact State.tune_frame _ _ _ _ _
  · exact State.takeMeasure_frame _ _ _
  · exact State.takeRelease_frame _ _
  · exact .refl s

theorem State.skipEntry_frame (n : Fin 8) (r : Nat) (s : State) (h : ¬ (s.sweep n).still) :
    SweepFrame a s (s.skipEntry n r) := State.setSweep_frame _ _ _ fun k => absurd k h

theorem State.beginEntry_frame (n : Fin 8) (s : State) (h : ¬ (s.sweep n).still) : SweepFrame a s (s.beginEntry n) := by
  unfold State.beginEntry
  dsimp only
  split
  · exact State.skipEntry_frame _ _ _ h
  · split
    · exact (State.setSweep_frame _ _ _ fun k => absurd k h).trans (State.driveAs_frame _ _ _ _ _)
    · exact State.skipEntry_frame _ _ _ h

theorem State.issueEntry_frame (n : Fin 8) (s : State) (h : ¬ (s.sweep n).still) : SweepFrame a s (s.issueEntry n) := by
  unfold State.issueEntry
  dsimp only
  split
  · exact State.setSweep_frame _ _ _ fun k => absurd k h
  · split
    · exact (State.setSweep_frame _ _ _ fun k => absurd k h).trans (State.tune_frame _ _ _ _ _)
    · exact State.skipEntry_frame _ _ _ h

theorem State.issueLoan_frame (n : Fin 8) (s : State) : SweepFrame a s (s.issueLoan n) := by
  unfold State.issueLoan
  dsimp only
  split
  · exact .refl s
  · rename_i k hk
    have h : ¬ (s.sweep n).still := fun e => by rw [e.2.2] at hk; cases hk
    split
    · exact (State.setSweep_frame _ _ _ fun k => absurd k h).trans (State.tune_frame _ _ _ _ _)
    · exact State.endLoan_frame _ _ (by rw [hk]; simp)

theorem State.lend_frame (p : Fin 8) (e : Recheck) (r : List Recheck) (s : State) (hq : s.recheckQueue = e :: r)
    (h : ¬ (s.sweep p).still) : SweepFrame a s (s.lend p e r) := by
  have h1 := State.setQueue_frame (a := a) r s fun x hx => .inl (by rw [hq]; exact .tail _ hx)
  exact h1.trans ((State.setSweep_frame _ _ { s with recheckQueue := r } fun k => absurd k h).trans
    (State.driveAs_frame _ _ _ _ _))

theorem State.enterSurvey_frame (x : SurveyState) (c : SurveyCause) (s : State)
    (h : x = s.survey ∨ s.survey = .stopping ∧ x = .stopped) : SweepFrame a s (s.enterSurvey x c) :=
  ({ SweepFrame.refl s with survey := h } : SweepFrame a s { s with survey := x }).trans (State.post_frame _ _ _ _)

theorem State.free_not_still {n : Fin 8} {s : State} (h : s.free n = true) : ¬ (s.sweep n).still := fun e => by
  simp [State.free, e.1] at h

theorem State.pathFor_free {e : Recheck} {s : State} {p : Fin 8} (h : s.pathFor e = some p) : s.free p = true := by
  unfold State.pathFor at h
  split at h
  · rename_i q hq
    have := List.find?_some hq
    cases h
    simp only [Bool.and_eq_true] at this; exact this.1
  · exact List.find?_some (p := fun p => s.free p) h

theorem State.engineAct_frame {s t : State} (h : s.engineAct = some t) : SweepFrame a s t := by
  unfold State.engineAct at h
  split at h
  · rename_i n hn
    cases h
    have := List.find?_some hn
    refine State.issueEntry_frame _ _ fun e => ?_
    simp [State.entryDue, e.1] at this
  split at h
  · cases h; exact State.issueLoan_frame _ _
  split at h
  · rename_i u hu
    cases h
    split at hu
    · cases hu
    · rename_i e r hq
      cases hp : s.pathFor e with
      | none => rw [hp] at hu; cases hu
      | some p =>
        rw [hp] at hu; cases hu
        exact State.lend_frame _ _ _ _ hq (State.free_not_still (State.pathFor_free hp))
  split at h
  · rename_i n hn
    cases h
    have := List.find?_some hn
    refine State.beginEntry_frame _ _ fun e => ?_
    simp [SweepList.aboutToBegin, e.1] at this
  split at h
  · rename_i hs
    cases h
    exact State.enterSurvey_frame _ _ _ (.inr ⟨hs.1, rfl⟩)
  · cases h

theorem State.runEngineFor_frame (k : Nat) (s : State) : SweepFrame a s (s.runEngineFor k) := by
  induction k generalizing s with
  | zero => exact .refl s
  | succ k ih =>
    unfold State.runEngineFor
    split
    · rename_i t ht; exact (State.engineAct_frame ht).trans (ih t)
    · exact .refl s

/-- Everything the Sweep Engine can do. -/
theorem State.runEngine_frame (s : State) : SweepFrame a s s.runEngine := State.runEngineFor_frame _ s

/-- An engine with nothing to do leaves everything as it is. -/
theorem State.runEngine_quiet {s : State} (h : s.quiet) : s.runEngine = s := by
  have e : s.engineAct = none := h
  show State.runEngineFor 160 s = s
  unfold State.runEngineFor
  rw [e]

/-! ## Recheck requests, rests -/

theorem placeRecheck_mem {e x : Recheck} {q : List Recheck} (h : x ∈ placeRecheck e q) : x = e ∨ x ∈ q := by
  unfold placeRecheck at h
  split at h
  · simp only [List.mem_append, List.mem_cons] at h
    rcases h with h | h | h
    · exact .inr ((List.takeWhile_sublist _).mem h)
    · exact .inl h
    · exact .inr ((List.dropWhile_sublist _).mem h)
  · simp only [List.mem_append, List.mem_singleton] at h
    exact h.symm

theorem State.newRecheck_frame (e : Recheck) (s : State) (he : s.enabled e.carrier = true) :
    SweepFrame true s (s.newRecheck e) := by
  have hp : ∀ q : List Recheck, (∀ x ∈ q, x ∈ s.recheckQueue) →
      SweepFrame true s { s with recheckQueue := placeRecheck e q } := fun q hq =>
    State.setQueue_frame _ s fun x hx => by
      rcases placeRecheck_mem hx with rfl | h
      · exact .inr ⟨rfl, he⟩
      · exact .inl (hq x h)
  unfold State.newRecheck
  split
  · exact hp _ fun _ h => h
  · split
    · split
      · exact State.post_frame _ _ _ _
      · exact (hp _ fun x h => List.dropLast_subset _ h).trans (State.post_frame _ _ _ _)
    · exact State.post_frame _ _ _ _

theorem State.meetRecheck_frame (e x : Recheck) (s : State) (he : s.enabled e.carrier = true) :
    SweepFrame true s (s.meetRecheck e x) := by
  unfold State.meetRecheck
  split
  · refine State.setQueue_frame _ s fun y hy => ?_
    rcases placeRecheck_mem hy with rfl | h
    · exact .inr ⟨rfl, he⟩
    · exact .inl (List.mem_filter.mp h |>.1)
  · exact .refl s

/-- Everything a recheck request can do. -/
theorem State.requestRecheck_frame (c : Nat) (k : MeasClass) (u : Urgency) (r : RecheckReason) (s : State) :
    SweepFrame true s (s.requestRecheck c k u r) := by
  unfold State.requestRecheck
  dsimp only
  split
  · exact .refl s
  · rename_i h
    have he : s.enabled c = true := by
      cases hc : s.enabled c <;> simp [hc] at h ⊢
    split
    · exact State.meetRecheck_frame _ _ _ he
    · exact (State.newRecheck_frame _ _ he).trans (State.runEngine_frame _)

end Sys2Proof.Machine
end

