-- ==== Sys2Proof/Laws/Lineup.lean ====
section
/-! SUPPORT. Everything a ranking report can bring: each operation of the Lineup Controller, of the Route Link's
orders and of the freeing of candidates keeps `LineupFrame`. -/
namespace Sys2Proof.Machine

theorem LineupFrame.refl (s : State) : LineupFrame s s where
  clock := rfl
  pending := rfl
  frameInput := rfl
  waiting := rfl
  replies := rfl
  restarting := rfl
  masks := rfl
  params := rfl
  carriers := rfl
  planMemory := rfl
  tickEnd := rfl
  bindings := rfl
  feeds _ := ⟨rfl, rfl, rfl, rfl⟩
  offFeed _ _ _ := rfl
  survey := .inl rfl
  still _ _ := rfl
  queue _ h := .inl h
  services _ h := h
  slots _ := rfl
  vacant _ _ _ _ _ _ := rfl
  parked _ _ := ⟨rfl, rfl⟩
  shelves _ := ⟨rfl, rfl⟩

theorem LineupFrame.trans {s t u : State} (a : LineupFrame s t) (b : LineupFrame t u) : LineupFrame s u where
  clock := b.clock.trans a.clock
  pending := b.pending.trans a.pending
  frameInput := b.frameInput.trans a.frameInput
  waiting := b.waiting.trans a.waiting
  replies := b.replies.trans a.replies
  restarting := b.restarting.trans a.restarting
  masks := b.masks.trans a.masks
  params := b.params.trans a.params
  carriers := b.carriers.trans a.carriers
  planMemory := b.planMemory.trans a.planMemory
  tickEnd := b.tickEnd.trans a.tickEnd
  bindings := b.bindings.trans a.bindings
  feeds f := ⟨(b.feeds f).1.trans (a.feeds f).1, (b.feeds f).2.1.trans (a.feeds f).2.1,
    (b.feeds f).2.2.1.trans (a.feeds f).2.2.1, (b.feeds f).2.2.2.trans (a.feeds f).2.2.2⟩
  offFeed f h1 h2 := by
    have h := a.offFeed f h1 h2
    rw [b.offFeed f (by rw [h]; exact h1) (by rw [h]; exact h2), h]
  survey := by
    rcases a.survey with h | ⟨h1, h2⟩
    · rcases b.survey with k | ⟨k1, k2⟩
      · exact .inl (k.trans h)
      · exact .inr ⟨h ▸ k1, k2⟩
    · rcases b.survey with k | ⟨k1, _⟩
      · exact .inr ⟨h1, k.trans h2⟩
      · rw [h2] at k1; cases k1
  still n h := by
    have e := a.still n h
    rw [b.still n (by rw [e]; exact h), e]
  queue e h := by
    rcases b.queue e h with k | k
    · exact a.queue e k
    · exact .inr (by rw [← State.enabled_congr a.carriers]; exact k)
  services k h := b.services k (a.services k h)
  slots i := (b.slots i).trans (a.slots i)
  vacant i h1 h2 h3 h4 h5 := by
    have e := a.vacant i h1 h2 h3 h4 h5
    rw [b.vacant i (by rw [e]; exact h1) (by rw [e]; exact h2) (by rw [e]; exact h3) (by rw [e]; exact h4)
      (by rw [e]; exact h5), e]
  parked h1 h2 := by
    have e := a.parked h1 h2
    have hs : t.survey = .stopped := by
      rcases a.survey with k | ⟨_, k⟩
      · exact k.trans h1
      · exact k
    have e' := b.parked hs fun n => by rw [a.still n (h2 n)]; exact h2 n
    exact ⟨e'.1.trans e.1, e'.2.trans e.2⟩
  shelves h := ⟨(b.shelves h).1.trans (a.shelves h).1, (b.shelves h).2.trans (a.shelves h).2⟩

/-- What the sweep may change, the Lineup may bring about. -/
theorem SweepFrame.lineup {b : Bool} {s t : State} (a : SweepFrame b s t)
    (hq : s.survey = .stopped → (∀ n, (s.sweep n).still) → t.paths = s.paths ∧ t.feeds = s.feeds) :
    LineupFrame s t where
  clock := a.clock
  pending := a.pending
  frameInput := a.frameInput
  waiting := a.waiting
  replies := a.replies
  restarting := a.restarting
  masks := a.masks
  params := a.params
  carriers := a.carriers
  planMemory := a.planMemory
  tickEnd := a.tickEnd
  bindings := a.bindings
  feeds := a.feeds
  offFeed := a.offFeed
  survey := a.survey
  still := a.still
  queue e h := (a.queue e h).imp id And.right
  parked := hq
  services k h := by unfold State.service at *; rw [a.services]; exact h
  slots i := by unfold State.slot; rw [a.slots]
  vacant i _ _ _ _ _ := by unfold State.slot; rw [a.slots]
  shelves h := by unfold State.shelf; rw [a.shelves]; exact ⟨rfl, rfl⟩

/-- A stopped survey whose lists stand still gives the Sweep Engine nothing to do. -/
theorem State.quiet_of_still {s : State} (h1 : s.survey = .stopped) (h2 : ∀ n, (s.sweep n).still) : s.quiet := by
  have e1 : ∀ n, s.entryDue n = false := fun n => by simp [State.entryDue, (h2 n).1]
  have e2 : ∀ n, s.loanDue n = false := fun n => by simp [State.loanDue, (h2 n).2.2]
  have e3 : ∀ n, s.free n = false := fun n => by simp [State.free, h1]
  have e4 : ∀ n, (s.sweep n).aboutToBegin = false := fun n => by simp [SweepList.aboutToBegin, (h2 n).1]
  have e5 : ∀ e, s.pathFor e = none := fun e => by simp [State.pathFor, e3, allPaths]
  unfold State.quiet State.engineAct
  simp only [e1, e2, e4, List.find?, allPaths, Bool.false_and]
  cases hq : s.recheckQueue <;> simp [e5, h1]

theorem State.newRecheck_parts (e : Recheck) (s : State) :
    (s.newRecheck e).paths = s.paths ∧ (s.newRecheck e).feeds = s.feeds ∧ (s.newRecheck e).lists = s.lists
      ∧ (s.newRecheck e).survey = s.survey := by
  unfold State.newRecheck State.dropped
  split
  · exact ⟨rfl, rfl, rfl, rfl⟩
  · split
    · split <;> simp
    · simp

/-- A recheck asked for while the survey is STOPPED and the lists stand still moves nothing. -/
theorem State.requestRecheck_still (c : Nat) (k : MeasClass) (u : Urgency) (r : RecheckReason) {s : State}
    (h1 : s.survey = .stopped) (h2 : ∀ n, (s.sweep n).still) :
    (s.requestRecheck c k u r).paths = s.paths ∧ (s.requestRecheck c k u r).feeds = s.feeds := by
  unfold State.requestRecheck
  dsimp only
  split
  · exact ⟨rfl, rfl⟩
  · split
    · unfold State.meetRecheck; split <;> exact ⟨rfl, rfl⟩
    · obtain ⟨a, b, c', d⟩ := State.newRecheck_parts ⟨c, k, u, r, s.clock⟩ s
      rw [State.runEngine_quiet]
      · exact ⟨a, b⟩
      · refine State.quiet_of_still (d.trans h1) fun n => ?_
        unfold State.sweep; rw [c']; exact h2 n

theorem State.requestRecheck_lineup (c : Nat) (k : MeasClass) (u : Urgency) (r : RecheckReason) (s : State) :
    LineupFrame s (s.requestRecheck c k u r) :=
  (State.requestRecheck_frame c k u r s).lineup fun h1 h2 => State.requestRecheck_still c k u r h1 h2

theorem State.post_lineup (k : NoticeKind) (o : Nat) (d : List Byte) (s : State) : LineupFrame s (s.post k o d) :=
  (State.post_frame (a := true) k o d s).lineup fun _ _ => ⟨by simp, by simp⟩

/-! ## The updates -/

theorem State.setSlot_frame (i : Fin 64) (x : Slot) (s : State) (hb : x.binding = (s.slot i).binding)
    (hv : (s.slot i).binding = none → (s.slot i).state = .vacant → (s.slot i).challenger = none →
      (s.slot i).bar = none → (s.slot i).lastTarget = none → x = s.slot i) : LineupFrame s (s.setSlot i x) :=
  { LineupFrame.refl s with
    slots := fun j => by
      by_cases e : j = i
      · subst e; rw [State.slot_setSlot_self]; exact hb
      · rw [State.slot_setSlot_ne _ _ e]
    vacant := fun j h1 h2 h3 h4 h5 => by
      by_cases e : j = i
      · subst e; rw [State.slot_setSlot_self]; exact hv h1 h2 h3 h4 h5
      · rw [State.slot_setSlot_ne _ _ e] }

/-- A slot that is not VACANT, or that is bound, keeps its binding under an update. -/
theorem State.setSlot_frame' (i : Fin 64) (x : Slot) (s : State) (hb : x.binding = (s.slot i).binding)
    (hn : (s.slot i).state ≠ .vacant) : LineupFrame s (s.setSlot i x) :=
  State.setSlot_frame i x s hb fun _ h _ _ _ => absurd h hn

theorem State.setShelf_frame (h : Fin 4) (x : Shelf) (s : State) (h1 : x.state = (s.shelf h).state)
    (h2 : x.timeouts = (s.shelf h).timeouts) : LineupFrame s (s.setShelf h x) :=
  { LineupFrame.refl s with
    shelves := fun j => by
      by_cases e : j = h
      · subst e; rw [State.shelf_setShelf_self]; exact ⟨h1, h2⟩
      · rw [State.shelf_setShelf_ne _ _ e]; exact ⟨rfl, rfl⟩ }

/-! ## Orders -/

theorem Shelf.send_state (x : Shelf) : x.send.state = x.state := by
  unfold Shelf.send; split <;> simp_all

theorem Shelf.send_timeouts (x : Shelf) : x.send.timeouts = x.timeouts := by
  unfold Shelf.send; split <;> rfl

theorem State.send_frame (h : Fin 4) (s : State) : LineupFrame s (s.send h) :=
  State.setShelf_frame _ _ _ (Shelf.send_state _) (Shelf.send_timeouts _)

theorem State.enqueue_frame (h : Fin 4) (o : Fin 16) (k : OrderKind) (s : State) : LineupFrame s (s.enqueue h o k) :=
  (State.setShelf_frame h { s.shelf h with nextTag := (s.shelf h).nextTag + 1, queue := (s.shelf h).queue ++ [⟨(s.shelf h).nextTag, o, k, false⟩] } s rfl rfl).trans (State.send_frame _ _)

@[simp] theorem State.send_slot (h : Fin 4) (s : State) (i : Fin 64) : (s.send h).slot i = s.slot i := rfl
@[simp] theorem State.enqueue_slot (h : Fin 4) (o : Fin 16) (k : OrderKind) (s : State) (i : Fin 64) :
    (s.enqueue h o k).slot i = s.slot i := rfl

theorem State.handSet_frame (i : Fin 64) (n : CandName) (s : State) (hn : (s.slot i).state ≠ .vacant) :
    LineupFrame s (s.handSet i n) := by
  unfold State.handSet
  split
  · rename_i b r _ _
    refine LineupFrame.trans (State.setSlot_frame' i _ s ?_ hn)
      (LineupFrame.trans (State.setShelf_frame b.shelf _ _ ?_ ?_) (State.enqueue_frame _ _ _ _)) <;> rfl
  · exact .refl s

theorem State.giveOrder_frame (i : Fin 64) (n : CandName) (r : OrderReason) (s : State)
    (hn : (s.slot i).state ≠ .vacant) : LineupFrame s (s.giveOrder i n r) := by
  unfold State.giveOrder
  refine LineupFrame.trans (State.setSlot_frame' i _ s ?_ hn) (State.handSet_frame i n _ ?_)
  · rfl
  · rw [State.slot_setSlot_self]; simp

/-! ## Freeing -/

theorem Slot.forget_vacant {x : Slot} (n : CandName) (h1 : x.challenger = none) (h2 : x.bar = none)
    (h3 : x.lastTarget = none) : x.forget n = x := by
  cases x
  simp_all [Slot.forget]

theorem State.dropEmpty_frame (k : Nat) (s : State) : LineupFrame s (s.dropEmpty k) := by
  unfold State.dropEmpty
  split
  · split
    · exact { LineupFrame.refl s with
        services := fun j h => by
          show Store.find (Store.del s.services k) j = none
          rw [Store.find_del]
          split
          · rfl
          · exact h }
    · exact .refl s
  · exact .refl s

theorem State.setService_frame (k : Nat) (v : Service) (s : State) (h : s.service k ≠ none) :
    LineupFrame s (s.setService k v) :=
  { LineupFrame.refl s with
    services := fun j hj => by
      rw [State.service_setService_ne]
      · exact hj
      · intro e; subst e; exact h hj }

theorem State.forget_frame (n : CandName) (s : State) :
    LineupFrame s { s with slots := tabMap (Slot.forget n) s.slots } :=
  { LineupFrame.refl s with
    slots := fun i => by
      show (tabGet (tabMap (Slot.forget n) s.slots) i).binding = _
      rw [tabGet_tabMap]; rfl
    vacant := fun i _ _ h3 h4 h5 => by
      show tabGet (tabMap (Slot.forget n) s.slots) i = _
      rw [tabGet_tabMap]; exact Slot.forget_vacant n h3 h4 h5 }

theorem State.freeCandidate_frame (n : CandName) (s : State) : LineupFrame s (s.freeCandidate n) := by
  unfold State.freeCandidate
  split
  · exact .refl s
  · split
    · exact .refl s
    · rename_i h
      rename_i v
      exact ((State.setService_frame _ _ s (by rw [h]; simp)).trans
        (State.forget_frame n (s.setService _ { v with cands := v.cands.filter fun x => !x.named n }))).trans
        (State.dropEmpty_frame _ _)

theorem State.letGo_frame (n : Option CandName) (s : State) : LineupFrame s (s.letGo n).1 := by
  unfold State.letGo
  split
  · exact .refl s
  · split
    · exact .refl s
    · split
      · exact State.freeCandidate_frame _ _
      · exact .refl s

theorem State.freeCandidate_slot (n : CandName) (s : State) (i : Fin 64) :
    (s.freeCandidate n).slot i = s.slot i ∨ (s.freeCandidate n).slot i = (s.slot i).forget n := by
  unfold State.freeCandidate
  split
  · exact .inl rfl
  · split
    · exact .inl rfl
    · refine .inr ?_
      dsimp only
      unfold State.dropEmpty
      split
      · split
        · exact tabGet_tabMap _ _ _
        · exact tabGet_tabMap _ _ _
      · exact tabGet_tabMap _ _ _

/-- What letting go of a candidate does to a slot. -/
theorem State.letGo_slot (n : Option CandName) (s : State) (i : Fin 64) :
    ((s.letGo n).1.slot i).state = (s.slot i).state := by
  unfold State.letGo
  cases n with
  | none => rfl
  | some c =>
    dsimp only
    split
    · rfl
    · split
      · rcases State.freeCandidate_slot c s i with h | h <;> dsimp only <;> rw [h] <;> rfl
      · rfl

/-! ## Evaluation and reports -/

theorem State.requestRecheck_slot (c : Nat) (k : MeasClass) (u : Urgency) (r : RecheckReason) (s : State)
    (i : Fin 64) : (s.requestRecheck c k u r).slot i = s.slot i := by
  unfold State.slot
  rw [(State.requestRecheck_frame c k u r s).slots]

theorem State.seek_frame (i : Fin 64) (s : State) (hn : (s.slot i).state ≠ .vacant) : LineupFrame s (s.seek i) := by
  unfold State.seek
  split
  · exact State.giveOrder_frame _ _ _ _ hn
  · exact .refl s

theorem State.failOver_frame (i : Fin 64) (n : CandName) (c : FailCause) (s : State)
    (hn : (s.slot i).state ≠ .vacant) : LineupFrame s (s.failOver i n c).1 := by
  unfold State.failOver
  split
  · exact (State.giveOrder_frame _ _ _ _ hn).trans (State.post_lineup _ _ _ _)
  · refine LineupFrame.trans (State.setSlot_frame' i _ s ?_ hn)
      (LineupFrame.trans (State.post_lineup _ _ _ _) (State.letGo_frame _ _))
    rfl

theorem State.challenge_frame (i : Fin 64) (act : Candidate) (ev : Option RankReport) (s : State)
    (hn : (s.slot i).state ≠ .vacant) : LineupFrame s (s.challenge i act ev) := by
  unfold State.challenge
  dsimp only
  split
  · exact State.setSlot_frame' i _ s rfl hn
  · rename_i ch _
    generalize hx : ({ s.slot i with challenger := some ch.name, wins := winsAfter _ _ _ _ } : Slot) = x
    have hb : x.binding = (s.slot i).binding := by rw [← hx]
    have hs : x.state = (s.slot i).state := by rw [← hx]
    have h1 := State.setSlot_frame' i x s hb hn
    have h2 : ((s.setSlot i x).slot i).state ≠ .vacant := by rw [State.slot_setSlot_self, hs]; exact hn
    have fin : ∀ (u : State) (b : Bool), LineupFrame s u → (u.slot i).state ≠ .vacant →
        LineupFrame s (if b = true then u.giveOrder i ch.name .better else u) := fun u b hu hv => by
      split
      · exact hu.trans (State.giveOrder_frame _ _ _ _ hv)
      · exact hu
    split
    · exact fin _ _ (h1.trans (State.requestRecheck_lineup _ _ _ _ _)) (by rw [State.requestRecheck_slot]; exact h2)
    · exact fin _ _ h1 h2

/-- Everything the evaluation of a slot can do. -/
theorem State.evaluate_frame (i : Fin 64) (ev : Option RankReport) (s : State) :
    LineupFrame s (s.evaluate i ev).1 := by
  unfold State.evaluate
  dsimp only
  split
  · rename_i h; exact State.seek_frame _ _ (by rw [h]; simp)
  · rename_i h
    have hn : (s.slot i).state ≠ .vacant := by rw [h]; simp
    split
    · exact .refl s
    · exact State.failOver_frame _ _ _ _ hn
    · split
      · exact State.failOver_frame _ _ _ _ hn
      · exact State.challenge_frame _ _ _ _ hn
  all_goals exact .refl s

theorem State.watch_frame (i : Fin 64) (r : RankReport) (s : State) : LineupFrame s (s.watch i r) := by
  unfold State.watch
  dsimp only
  split
  · split
    · exact (State.requestRecheck_lineup _ _ _ _ _)
    · exact .refl s
  · exact .refl s

theorem State.takeReport_frame (r : RankReport) (l : List (Fin 64)) (s : State) :
    LineupFrame s (s.takeReport r l).1 := by
  induction l generalizing s with
  | nil => exact .refl s
  | cons i l ih =>
    unfold State.takeReport
    exact ((State.evaluate_frame i (some r) s).trans (State.watch_frame _ _ _)).trans (ih _)

theorem State.handReportsFor_frame (k : Nat) (rs : List RankReport) (s : State) :
    LineupFrame s (s.handReportsFor k rs) := by
  induction k generalizing rs s with
  | zero => exact .refl s
  | succ k ih =>
    cases rs with
    | nil => exact .refl s
    | cons r rest =>
      unfold State.handReportsFor
      exact (State.takeReport_frame _ _ _).trans (ih _ _)

/-- Everything that ranking reports can bring about. -/
theorem State.handReports_frame (rs : List RankReport) (s : State) : LineupFrame s (s.handReports rs) :=
  State.handReportsFor_frame _ _ _

theorem State.handReports_nil (s : State) : s.handReports [] = s := by
  unfold State.handReports
  generalize [].length + s.poolSize = k
  cases k <;> rfl

theorem State.reportCarrier_frame (c : Nat) (k : RankCause) (b : Reception) (s : State) :
    LineupFrame s (s.reportCarrier c k b) := State.handReports_frame _ _

theorem State.reportServices_frame (l : List Nat) (k : RankCause) (c : Option Nat) (s : State) :
    LineupFrame s (s.reportServices l k c) := State.handReports_frame _ _

theorem State.reportServices_nil (k : RankCause) (c : Option Nat) (s : State) : s.reportServices [] k c = s :=
  State.handReports_nil s

theorem State.settleReports_frame {s : State} (x : State × List RankReport) (h : LineupFrame s x.1) :
    LineupFrame s (State.settleReports x) := h.trans (State.handReports_frame _ _)

/-! ## The services of a report -/

/-- Every service that a step names by a candidate exists, so that it is reported (R113). -/
theorem State.reportServices_listed (p : Nat × Service → Bool) (k : RankCause) (c : Option Nat) (s : State) :
    s.reportServices ((s.services.filter p).map (·.1)) k c
      = s.handReports (((s.services.filter p).map (·.1)).map fun key => s.rankReport key k c none) := by
  unfold State.reportServices
  rw [List.filter_eq_self.2]
  intro key hk
  obtain ⟨e, he, rfl⟩ := List.mem_map.1 hk
  exact Store.find_isSome_of_mem (List.mem_filter.1 he).1

/-! ## What a slot lets go of -/

/-- No slot is bound to the service. -/
theorem State.boundSlots_isEmpty (s : State) (key : Nat) :
    (s.boundSlots key).isEmpty = true ↔ ∀ i b, (s.slot i).binding = some b → b.key ≠ key := by
  simp only [State.boundSlots, List.isEmpty_iff, List.filter_eq_nil_iff]
  constructor
  · intro h i b hb e
    exact h i (List.mem_finRange i) (by simp [Slot.boundTo, hb, e])
  · intro h i _ hi
    unfold Slot.boundTo at hi
    split at hi
    · exact h i _ (by assumption) (by simpa using hi)
    · cases hi

@[simp] theorem State.dropEmpty_slot (s : State) (key : Nat) (i : Fin 64) : (s.dropEmpty key).slot i = s.slot i := by
  unfold State.dropEmpty
  split
  · split <;> rfl
  · rfl

/-- A slot that names nothing besides its active source and its target is untouched by what is let go of (R114). -/
theorem State.letGo_slot_clear (s : State) (old : Option CandName) (i : Fin 64) (hc : (s.slot i).challenger = none)
    (hb : (s.slot i).bar = none) (ht : (s.slot i).lastTarget = none) : (s.letGo old).1.slot i = s.slot i := by
  unfold State.letGo
  split
  · rfl
  · split
    · rfl
    · split
      · rename_i n _ _ _ _ _
        rcases State.freeCandidate_slot n s i with h | h
        · exact h
        · refine h.trans ?_
          generalize s.slot i = x at hc hb ht
          cases x
          simp only at hc hb ht
          subst hc hb ht
          simp [Slot.forget]
      · rfl

end Sys2Proof.Machine
end

