-- ==== Sys2Proof/Laws/Paths.lean ====
section
/-! SUPPORT. What a path does as it parks, leaves its carrier and ends a window, in the terms the statements use
(Safety.lean): each operation of the paths and of the sweep lists is the one the statements name. -/
namespace Sys2Proof.Machine

/-- A list becomes SUSPENDED (R74, R75). -/
theorem SweepList.suspend_eq (l : SweepList) : l.suspend = l.halted := by
  unfold SweepList.suspend SweepList.halted
  cases l.state <;> cases l.stage <;> rfl

@[simp] theorem SweepList.halted_loan (l : SweepList) : l.halted.loan = l.loan := by
  rw [← SweepList.suspend_eq]
  unfold SweepList.suspend
  cases l.state <;> cases l.stage <;> rfl

/-- A SUSPENDED list returns (R74, R75, R81). -/
theorem SweepList.unsuspend_eq (now : Stamp) (l : SweepList) : l.unsuspend now = l.returned now := by
  unfold SweepList.unsuspend SweepList.returned
  cases l.state <;> rcases l.resume with _ | _ | _ <;> simp

/-- A list that its path leaves: everything `leaveList` can do (R75). -/
theorem State.leaveList_eq (n : Fin 8) (s : State) : s.leaveList n = s.listLeft n := by
  have h (l : SweepList) :
      (match l.loan with
        | some k => if k.issued then l else { l with loan := none }
        | none => l)
        = { l with loan := l.loan.bind fun k => if k.issued = true then some k else none } := by
    rcases l with ⟨_, _, _, _, _, _, _, _, loan, _, _, _, _, _⟩
    cases loan with
    | none => rfl
    | some k => cases hk : k.issued <;> simp [hk]
  rw [State.leaveList, State.listLeft, SweepList.suspend_eq, ← SweepList.halted_loan (s.sweep n)]
  exact congrArg (s.setSweep n) (h _)

/-- A list whose path joins it: everything `joinList` can do (R75). -/
theorem State.joinList_eq (n : Fin 8) (s : State) : s.joinList n = s.listJoined n := by
  unfold State.joinList State.listJoined
  cases s.survey <;> simp [SweepList.unsuspend_eq]

/-- A path that enters PARKED (R33, R48). -/
theorem State.enterParked_eq (p : Fin 8) (s : State) : s.enterParked p = s.rests p := by
  simp only [State.enterParked, State.rests, State.path_setPath_self, Path.atRest]
  cases (s.path p).pendingMode with
  | none => rfl
  | some m => cases m <;> simp [State.setMode, State.leaveList_eq, State.joinList_eq]

/-- A path that leaves its carrier is RELEASING, or detaches at once (R47). -/
theorem State.startRelease_eq (p : Fin 8) (s : State) : s.startRelease p = s.leaves p := by
  simp only [State.startRelease, State.tryDetach, State.leaves, State.path_setPath_self, Path.resultOutstanding,
    State.setPath_clock, Path.leaving]
  by_cases h1 : (s.path p).outbox = []
  · by_cases h2 : hasPassed s.clock (s.path p).earliestDetach = true
    · cases (s.path p).tap <;> simp [h1, h2, State.detach, Path.recover, State.recovering, ms] <;> rfl
    · simp [h1, h2]
  · simp [h1]

/-- The record of a measurement that never ran names its own requester (R60, R61). -/
theorem neverRan_eq (p : Fin 8) (c : Nat) (m : Option Meas) (q : Requester) (o : MeasOutcome) (t : Stamp) :
    neverRan p c m ((m.map (·.requester)).getD q) o t = unrun p c m q o t := by
  cases m with
  | none => rfl
  | some m =>
    cases h : m.cls <;> simp [neverRan, unrun, Meas.programmed, h]

/-- The record of a window carries its figures as they stand (R60). -/
theorem Window.result_eq (w : Window) (p : Fin 8) (c : Nat) (o : MeasOutcome) (a : Option Announcement) (t : Stamp) :
    w.result p c o a t = w.figures p c o a t := by
  cases h : w.meas.cls <;> simp [Window.result, Window.figures, Meas.programmed, h]

/-- A tune that fails ends NO_LOCK for its measurement's requester, or for its own (R34, R38). -/
theorem State.tuneFails_eq (p : Fin 8) (c : Nat) (q : Requester) (m : Option Meas) (s : State) :
    s.tuneFails p c q m = s.deliver (unrun p c m q .noLock s.clock) := by
  cases m with
  | none => exact congrArg (fun r => s.deliver r) (neverRan_eq p c none q .noLock s.clock)
  | some m => exact congrArg (fun r => s.deliver r) (neverRan_eq p c (some m) q .noLock s.clock)

/-- A measurement that has not started ends for its requester (R61). -/
theorem State.endUnstarted_some (p : Fin 8) (c : Nat) (m : Meas) (o : MeasOutcome) (s : State) :
    s.endUnstarted p (some c) (some m) o = s.deliver (unrun p c (some m) m.requester o s.clock) := by
  rw [← neverRan_eq]; rfl

/-- A window that is over hands its result on, and the path goes on as R42 gives. -/
theorem State.endWindow_eq (p : Fin 8) (o : MeasOutcome) (a : Option Announcement) (base : Stamp) (s : State) {c : Nat}
    {w : Window} (h1 : (s.path p).tuned = some c) (h2 : (s.path p).window = some w) :
    s.endWindow p o a base = (s.deliver (w.figures p c o a s.clock)).windowOver p w base := by
  simp only [State.endWindow, h1, h2, Window.result_eq, State.windowOver]
  split
  · rename_i m hm
    by_cases hc : m.cls = .content <;> simp [State.startWindow, hm, hc, ms, Config.blockMs]
  · rename_i hm
    simp [hm, State.startRelease_eq]

/-- A rest begins (R77, R78). -/
theorem SweepList.startRest_eq (s : State) (n : Nat) (l : SweepList) : l.startRest n s.clock = s.listRests n l := by
  cases h : l.state <;> simp [SweepList.startRest, State.listRests, h]

end Sys2Proof.Machine
end

