-- ==== Sys2Proof/Laws/Ranking.lean ====
section
/-! SUPPORT. The rank order of R111: a strict order in which any two names are comparable, and what the first
candidate in it that satisfies a test is, which is what a slot chooses (R133) and finds as challenger (R136); and the order of the aliases (R108, R195), which
adding and removing one keeps. -/
namespace Sys2Proof.Machine

/-- One key of a lexicographic comparison. -/
theorem keyStep (x y : Nat) (r : Bool) :
    (if x < y then true else if y < x then false else r) = true ↔ (x < y ∨ x = y ∧ r = true) := by
  by_cases h : x < y
  · simp [h]
  · by_cases h2 : y < x
    · simp [h, h2]; omega
    · have : x = y := by omega
      simp [this]

theorem mem_insertBy {α} (b : α → α → Bool) (x y : α) (l : List α) : y ∈ insertBy b x l ↔ y = x ∨ y ∈ l := by
  induction l with
  | nil => simp [insertBy]
  | cons z r ih =>
    simp only [insertBy]; split
    · simp
    · simp only [List.mem_cons, ih]; exact or_left_comm

/-- Sorting keeps the elements. -/
theorem mem_sortBy {α} (b : α → α → Bool) (y : α) (l : List α) : y ∈ sortBy b l ↔ y ∈ l := by
  induction l with
  | nil => simp [sortBy]
  | cons z r ih => simp [sortBy, mem_insertBy, ih]

/-- An element put into an ordered list leaves it ordered. -/
theorem sorted_insertBy {α} {b : α → α → Bool}
   (asym : ∀ x y, b x y = true → b y x = false) (tr : ∀ x y z, b x y = true → b y z = true → b x z = true)
   (x : α) {l : List α} (h : l.Pairwise fun u v => b v u = false) : (insertBy b x l).Pairwise fun u v => b v u = false := by
  induction l with
  | nil => simp [insertBy]
  | cons z r ih =>
    simp only [insertBy]
    rw [List.pairwise_cons] at h
    split
    · rename_i hx
      rw [List.pairwise_cons, List.pairwise_cons]
      refine ⟨fun v hv => ?_, h⟩
      rcases List.mem_cons.1 hv with rfl | hv
      · exact asym _ _ hx
      · have := h.1 v hv
        cases e : b v x with
        | false => rfl
        | true => rw [tr _ _ _ e hx] at this; cases this
    · rename_i hx
      rw [List.pairwise_cons]
      refine ⟨fun v hv => ?_, ih h.2⟩
      rcases (mem_insertBy b x v r).1 hv with rfl | hv
      · simpa using hx
      · exact h.1 v hv

/-- A sorted list has no later element before an earlier one. -/
theorem sorted_sortBy {α} {b : α → α → Bool}
   (asym : ∀ x y, b x y = true → b y x = false) (tr : ∀ x y z, b x y = true → b y z = true → b x z = true)
   (l : List α) : (sortBy b l).Pairwise fun u v => b v u = false := by
  induction l with
  | nil => simp [sortBy]
  | cons x r ih => exact sorted_insertBy asym tr x ih

/-- Rank order is a strict order (R111). -/
theorem State.ranksBefore_asymm (s : State) (x y : Candidate) (h : s.ranksBefore x y = true) : s.ranksBefore y x = false := by
  rw [← Bool.not_eq_true]; intro h2
  simp only [State.ranksBefore, keysBefore, keyStep, Bool.false_eq_true, and_false, or_false] at h h2
  omega

theorem State.ranksBefore_trans (s : State) (x y z : Candidate) (h : s.ranksBefore x y = true) (h2 : s.ranksBefore y z = true) : s.ranksBefore x z = true := by
  simp only [State.ranksBefore, keysBefore, keyStep, Bool.false_eq_true, and_false, or_false] at h h2 ⊢
  omega

/-- No two names are equal on all five keys (R111). -/
theorem State.ranksBefore_total (s : State) (x y : Candidate) (n : x.name ≠ y.name) (h : s.ranksBefore x y = false) : s.ranksBefore y x = true := by
  have n' : x.name.carrier ≠ y.name.carrier ∨ x.name.serviceId ≠ y.name.serviceId := by
    by_cases hc : x.name.carrier = y.name.carrier
    · by_cases hi : x.name.serviceId = y.name.serviceId
      · exact absurd (by cases hx : x.name; cases hy : y.name; simp_all) n
      · exact .inr hi
    · exact .inl hc
  rw [← Bool.not_eq_true] at h
  simp only [State.ranksBefore, keysBefore, keyStep, Bool.false_eq_true, and_false, or_false] at h ⊢
  generalize (s.group x).code = a1 at *; generalize (s.group y).code = a2 at *
  generalize absentKey (s.standing x.name.carrier) = b1 at *; generalize absentKey (s.standing y.name.carrier) = b2 at *
  omega

/-- The first element of an ordered list that satisfies a test stands before every other that does. -/
theorem find?_first {α} {R : α → α → Prop} {p : α → Bool} {l : List α} (h : l.Pairwise R) {c : α} (hc : l.find? p = some c) :
   p c = true ∧ c ∈ l ∧ ∀ d ∈ l, p d = true → d = c ∨ R c d := by
  induction l with
  | nil => simp at hc
  | cons z r ih =>
    rw [List.pairwise_cons] at h
    rw [List.find?_cons] at hc
    split at hc
    · cases hc
      rename_i hp
      refine ⟨hp, List.mem_cons_self, fun d hd _ => ?_⟩
      rcases List.mem_cons.1 hd with rfl | hd
      · exact .inl rfl
      · exact .inr (h.1 d hd)
    · rename_i hp
      obtain ⟨a, b, e⟩ := ih h.2 hc
      refine ⟨a, List.mem_cons_of_mem _ b, fun d hd hd' => ?_⟩
      rcases List.mem_cons.1 hd with rfl | hd
      · rw [hd'] at hp; cases hp
      · exact e d hd hd'

/-- What the first candidate in rank order that satisfies a test is: the highest-ranked of those that do. -/
theorem State.rankOrder_find (s : State) (l : List Candidate) (p : Candidate → Bool) {c : Candidate} (h : (s.rankOrder l).find? p = some c) :
   c ∈ l ∧ p c = true ∧ ∀ d ∈ l, p d = true → d.name ≠ c.name → s.ranksBefore c d = true := by
  obtain ⟨a, b, e⟩ := find?_first (sorted_sortBy (State.ranksBefore_asymm s) (State.ranksBefore_trans s) l) h
  refine ⟨(mem_sortBy _ _ _).1 b, a, fun d hd hp n => ?_⟩
  rcases e d ((mem_sortBy _ _ _).2 hd) hp with rfl | h
  · exact absurd rfl n
  · exact State.ranksBefore_total s _ _ n h

/-- The name of the first candidate in rank order that satisfies a test. -/
theorem State.rankOrder_find_name (s : State) (l : List Candidate) (p : Candidate → Bool) (n : CandName) :
  ((s.rankOrder l).find? p).map (·.name) = some n ↔ ∃ c, c.name = n ∧ c ∈ l ∧ p c = true ∧ ∀ d ∈ l, p d = true → d.name ≠ c.name → s.ranksBefore c d = true := by
  constructor
  · intro h
    obtain ⟨c, hc, rfl⟩ := Option.map_eq_some_iff.1 h
    exact ⟨c, rfl, State.rankOrder_find s l p hc⟩
  · rintro ⟨c, rfl, hm, hp, hb⟩
    cases e : (s.rankOrder l).find? p with
    | none => rw [List.find?_eq_none] at e; exact absurd hp (e c ((mem_sortBy _ _ _).2 hm))
    | some d =>
      obtain ⟨dm, dp, db⟩ := State.rankOrder_find s l p e
      by_cases hn : d.name = c.name
      · simp [hn]
      · have h1 := hb d dm dp hn
        have h2 := db c hm hp (Ne.symm hn)
        rw [State.ranksBefore_asymm s _ _ h1] at h2; cases h2

/-- No candidate in rank order satisfies a test where none of the list does. -/
theorem State.rankOrder_find_none (s : State) (l : List Candidate) (p : Candidate → Bool) :
   (s.rankOrder l).find? p = none ↔ ∀ d ∈ l, ¬ p d = true := by
  simp [List.find?_eq_none, State.rankOrder, mem_sortBy]

/-! ## The aliases (R108, R195) -/

theorem PairBinding.before_iff (x y : PairBinding) :
    x.before y = true ↔ x.pair.network < y.pair.network
      ∨ x.pair.network = y.pair.network ∧ x.pair.serviceId < y.pair.serviceId := by
  simp only [PairBinding.before, keysBefore, keyStep]; simp

/-- The aliases in rising order of pair, as their order relation says it. -/
theorem pairsRise_iff (l : List PairBinding) : pairsRise l = true ↔ l.Pairwise fun x y => x.before y = true := by
  induction l with
  | nil => simp [pairsRise]
  | cons b r ih => simp [pairsRise, ih, PairBinding.before_iff]

/-- Removing aliases keeps their order. -/
theorem pairsRise_filter (p : PairBinding → Bool) {l : List PairBinding} (h : pairsRise l = true) :
    pairsRise (l.filter p) = true := by
  rw [pairsRise_iff] at h ⊢; exact h.filter p

/-- A pair that no alias has takes its place in their order. -/
theorem pairsRise_insertBy (x : PairBinding) {l : List PairBinding} (h : pairsRise l = true)
    (new : ∀ y ∈ l, y.pair ≠ x.pair) : pairsRise (insertBy PairBinding.before x l) = true := by
  rw [pairsRise_iff] at h ⊢
  induction l with
  | nil => simp [insertBy]
  | cons y r ih =>
    obtain ⟨first, rest⟩ := List.pairwise_cons.1 h
    simp only [insertBy]
    split
    · rename_i hx
      refine List.pairwise_cons.2 ⟨fun z hz => ?_, h⟩
      rcases List.mem_cons.1 hz with rfl | hz
      · exact hx
      · have := first z hz; rw [PairBinding.before_iff] at *; omega
    · rename_i hx
      refine List.pairwise_cons.2 ⟨fun z hz => ?_, ih rest fun z hz => new z (List.mem_cons_of_mem _ hz)⟩
      rcases (mem_insertBy _ _ _ _).1 hz with rfl | hz
      · have ne := new y (List.mem_cons_self ..)
        have apart : ¬ (y.pair.network = z.pair.network ∧ y.pair.serviceId = z.pair.serviceId) := fun e =>
          ne (by cases hy : y.pair; cases hz : z.pair; simp_all)
        rw [PairBinding.before_iff] at *; omega
      · exact first z hz

end Sys2Proof.Machine
end

