-- ==== Sys2Proof/Laws/Records.lean ====
section
/-! SUPPORT. The fields of the records of Tables 13-6 to 13-8 as bytes: each field that may be absent as a list of
fixed length, and a presence field as the sum of its bits. With them a record is one list whose bytes stand at known
offsets. -/
namespace Sys2Proof.Machine

@[simp] theorem stampField_eq (x : Option Stamp) : stampField x = le32 ((x.map (·.toNat)).getD 0) := by cases x <;> rfl

@[simp] theorem settingBytes_eq (x : Option Setting) :
    settingBytes x = [byteOr (x.map (·.band.code)), byteOr (x.map (·.pol.code))] := by cases x <;> rfl

@[simp] theorem candField_eq (x : Option CandName) :
    candField x = byteOf ((x.map (·.carrier)).getD 0) :: le16 ((x.map (·.serviceId)).getD 0) := by cases x <;> rfl

@[simp] theorem measField_eq (x : Option Meas) :
    measField x
      = [byteOf ((x.map (·.cls.code)).getD 0), byteOf ((x.map (·.window)).getD 0), byteOf ((x.map (·.leadIn)).getD 0),
        flagByte ((x.map (·.release)).getD false), byteOf ((x.map (·.requester.code)).getD 0)] := by cases x <;> rfl

/-- The identity field of a carrier record. -/
theorem identityField_eq (x : Option Multiplex) :
    fieldOr 4 (x.map fun m => le16 m.network ++ le16 m.stream)
      = le16 ((x.map (·.network)).getD 0) ++ le16 ((x.map (·.stream)).getD 0) := by cases x <;> rfl

/-- The origin pair of a service record. -/
theorem pairField_eq (x : Option Pair) :
    fieldOr 4 (x.map Pair.bytes) = le16 ((x.map (·.network)).getD 0) ++ le16 ((x.map (·.serviceId)).getD 0) := by
  cases x <;> rfl

/-- The running window of a path record. -/
theorem windowField_eq (x : Option Window) :
    fieldOr 7 (x.map fun w => w.meas.bytes ++ [byteOf w.leadDone, byteOf w.counted])
      = measField (x.map (·.meas)) ++ [byteOf ((x.map (·.leadDone)).getD 0), byteOf ((x.map (·.counted)).getD 0)] := by
  cases x <;> rfl

/-- The held tune of a path record, but for its measurement. -/
theorem heldTuneField_eq (x : Option HeldTune) :
    fieldOr 2 (x.map fun t => [byteOf t.carrier, byteOf t.requester.code])
      = [byteOf ((x.map (·.carrier)).getD 0), byteOf ((x.map (·.requester.code)).getD 0)] := by cases x <;> rfl

/-- A presence field is its first bit and twice the rest. -/
theorem presence_cons (b : Bool) (l : List Bool) : presence (b :: l) = bitIf 0 b + 2 * presence l := by
  cases b <;> rfl

/-- A bit one place higher counts twice. -/
theorem bitIf_succ (n : Nat) (b : Bool) : bitIf (n + 1) b = 2 * bitIf n b := by
  cases b
  · rfl
  · simp [bitIf, Nat.pow_succ, Nat.mul_comm]

@[simp] theorem Pair.bytes_length (p : Pair) : p.bytes.length = 4 := rfl

@[simp] theorem CandName.bytes_length (n : CandName) : n.bytes.length = 3 := rfl

@[simp] theorem le16_length (n : Nat) : (le16 n).length = 2 := rfl

@[simp] theorem le32_length (n : Nat) : (le32 n).length = 4 := rfl

/-- The bytes of the k-th of a run of records of one length. -/
theorem bytesAt_flatMap {α : Type} (f : α → List Byte) (n : Nat) (h : ∀ x, (f x).length = n) :
    ∀ (l : List α) (rest : List Byte) (k : Nat) (x : α), l[k]? = some x → bytesAt (l.flatMap f ++ rest) (n * k) n = f x
  | y :: l, rest, 0, x, e => by
    obtain rfl : y = x := by simpa using e
    simp [bytesAt, h]
  | y :: l, rest, k + 1, x, e => by
    have := bytesAt_flatMap f n h l rest k x (by simpa using e)
    rw [← this]
    have gone : (f y).drop n = [] := List.drop_eq_nil_of_le (Nat.le_of_eq (h y))
    rw [bytesAt, Nat.mul_succ, Nat.add_comm, ← List.drop_drop, List.flatMap_cons, List.append_assoc,
      List.drop_append, gone, h y, Nat.sub_self]
    rfl
  | [], _, _, _, e => by simp at e

end Sys2Proof.Machine
end

