-- ==== Sys2Proof/Laws/Requests.lean ====
section
/-! SUPPORT. What the completion of a request frame can do (R181, R182): it is taken, it waits for a restart, or
it is discarded. -/
namespace Sys2Proof.Machine

theorem State.takes_spec {s : State} (h : s.takes = true) :
    s.holdsRequests = false ∧ s.outstanding < 4 := by
  unfold State.takes at h
  simpa using h

/-- No FRAME_ERROR is owed: none waits unsent among the replies, and none behind the requests that wait (R181). -/
theorem State.errorOwed_eq_false (s : State) :
    s.errorOwed = false ↔ (∀ x ∈ s.replies, x.code ≠ .frameError) ∧ .frameError ∉ s.waiting := by
  simp only [State.errorOwed, Bool.not_eq_false', Bool.and_eq_true, List.all_eq_true, Reply.toRequest, decide_eq_true_eq]
  refine and_congr_right fun _ => ⟨fun h m => ?_, fun h x hx => ?_⟩
  · have := h _ m
    simp [Awaiting.isRequest] at this
  · cases x with
    | request r => rfl
    | frameError => exact absurd hx h

/-- A discard where none is owed takes the one place of FRAME_ERROR (R181). -/
theorem State.discardFrame_unowed {s : State} (h : s.errorOwed = false) : s.discardFrame = s.oweError := by
  simp [State.discardFrame, h]

/-- A discard where one is owed changes nothing (R181). -/
theorem State.discardFrame_owed {s : State} (h : s.errorOwed = true) : s.discardFrame = s := by
  simp [State.discardFrame, h]

/-- The place behind every reply owed, where no request waits for a restart. -/
theorem State.oweError_nil {s : State} (h : s.waiting = []) :
    s.oweError = { s with replies := s.replies ++ [frameErrorReply] } := by simp [State.oweError, h]

/-- The place behind the requests that wait for a restart. -/
theorem State.oweError_waits {s : State} (h : s.waiting ≠ []) :
    s.oweError = { s with waiting := s.waiting ++ [.frameError] } := by
  cases hw : s.waiting with
  | nil => exact absurd hw h
  | cons a r => simp [State.oweError, hw]

/-- What the completion of a request frame finds: the frame in reception is gone, and a late one has been discarded. -/
theorem State.hunts_eq (s : State) : ({ s.linkGap with frameInput := .hunting } : State) = s.hunts := by
  cases hi : s.frameInput with
  | hunting => simp [State.linkGap, State.hunts, State.owesLateFrame, FrameInput.gapped, hi]
  | receiving got last =>
    by_cases hg : 20 < (s.clock - last).toNat
    · have h1 : s.frameInput.gapped s.clock = true := by rw [hi]; exact decide_eq_true hg
      simp only [State.linkGap, h1, if_true]
      cases he : s.errorOwed with
      | true =>
        have h2 : s.owesLateFrame = false := by
          cases h : s.owesLateFrame with
          | false => rfl
          | true =>
            simp only [State.owesLateFrame, hi, decide_eq_true_eq] at h
            rw [(State.errorOwed_eq_false s).2 h.2] at he
            cases he
        rw [State.discardFrame_owed (show ({ s with frameInput := .hunting } : State).errorOwed = true from he)]
        simp [State.hunts, h2]
      | false =>
        have h2 : s.owesLateFrame = true := by
          simp only [State.owesLateFrame, hi, decide_eq_true_eq]
          exact ⟨hg, (State.errorOwed_eq_false s).1 he⟩
        rw [State.discardFrame_unowed (show ({ s with frameInput := .hunting } : State).errorOwed = false from he)]
        by_cases hw : s.waiting = []
        · rw [State.oweError_nil (show ({ s with frameInput := .hunting } : State).waiting = [] from hw)]
          simp [State.hunts, h2, hw, frameErrorReply]
        · rw [State.oweError_waits (show ({ s with frameInput := .hunting } : State).waiting ≠ [] from hw)]
          simp [State.hunts, h2, hw]
    · have h1 : s.frameInput.gapped s.clock = false := by rw [hi]; exact decide_eq_false hg
      have h2 : s.owesLateFrame = false := by
        simp only [State.owesLateFrame, hi]; exact decide_eq_false fun h => hg h.1
      simp [State.linkGap, h1, State.hunts, h2]

/-- Everything the completion of a request frame can do. -/
theorem State.request_eq (s : State) (kind tag : Byte) (body : List Byte) :
    s.request kind tag body
      = if s.hunts.overruns body = true then s.hunts.discardFrame
        else if s.hunts.holdsRequests = true then
          { s.hunts with waiting := s.hunts.waiting ++ [.request ⟨kind, tag, body⟩] }
        else s.hunts.answer ⟨kind, tag, body⟩ := by
  unfold State.request
  rw [State.hunts_eq]

/-- A FRAME_ERROR is no request, so that the count of the outstanding ones stays. -/
@[simp] theorem State.hunts_outstanding (s : State) : s.hunts.outstanding = s.outstanding := by
  have h (p : Prop) [Decidable p] (l : List Reply) :
      countWhere Reply.toRequest (if p then l ++ [⟨0xFF, 0, .frameError, []⟩] else l) = countWhere Reply.toRequest l := by
    split <;> simp [countWhere, Reply.toRequest]
  have g (p : Prop) [Decidable p] (l : List Awaiting) :
      countWhere Awaiting.isRequest (if p then l ++ [.frameError] else l) = countWhere Awaiting.isRequest l := by
    split <;> simp [countWhere, Awaiting.isRequest]
  simp only [State.outstanding, State.hunts, h, g]

@[simp] theorem State.hunts_holdsRequests (s : State) : s.hunts.holdsRequests = s.holdsRequests := by
  simp only [State.holdsRequests, State.hunts]
  cases hw : s.waiting with
  | nil => simp
  | cons a r => split <;> rfl

/-- While the module hunts, a request finds it as it is. -/
theorem State.hunts_of_hunting {s : State} (h : s.frameInput = .hunting) : s.hunts = s := by
  have h2 : s.owesLateFrame = false := by simp [State.owesLateFrame, h]
  simp [State.hunts, h2, ← h]

/-- A request that is taken and whose kind is listed: its handler runs and its reply joins the sequence. -/
theorem State.request_taken {s : State} {kind tag : Byte} {body : List Byte}
    {h : List Byte → State → Answer × State} (ht : s.takes = true) (hl : body.length ≤ 1024)
    (hk : handlerOf kind = some h) :
    s.request kind tag body = (h body s.hunts).2.owe (replyKind kind) tag (h body s.hunts).1 := by
  obtain ⟨h1, h2⟩ := State.takes_spec ht
  have e1 : s.hunts.overruns body = false := by
    have h3 : ¬ 1024 < body.length := by omega
    have h4 : ¬ 4 ≤ s.outstanding := Nat.not_le.mpr h2
    simp [State.overruns, Config.maxBody, Config.maxOutstanding, h3, h4]
  have e2 : s.hunts.holdsRequests = false := by rw [State.hunts_holdsRequests, h1]
  rw [State.request_eq, e1, e2]
  simp [State.answer, hk]

/-- A request that is taken and whose kind is not listed (R182). -/
theorem State.request_unknown {s : State} {kind tag : Byte} {body : List Byte} (ht : s.takes = true)
    (hl : body.length ≤ 1024) (hk : handlerOf kind = none) :
    s.request kind tag body = s.hunts.owe (replyKind kind) tag (Answer.refuse .unknownKind) := by
  obtain ⟨h1, h2⟩ := State.takes_spec ht
  have e1 : s.hunts.overruns body = false := by
    have h3 : ¬ 1024 < body.length := by omega
    have h4 : ¬ 4 ≤ s.outstanding := Nat.not_le.mpr h2
    simp [State.overruns, Config.maxBody, Config.maxOutstanding, h3, h4]
  have e2 : s.hunts.holdsRequests = false := by rw [State.hunts_holdsRequests, h1]
  rw [State.request_eq, e1, e2]
  simp [State.answer, hk]

@[simp] theorem State.hunts_path (s : State) (p : Fin 8) : s.hunts.path p = s.path p := rfl
@[simp] theorem State.hunts_feed (s : State) (f : Fin 6) : s.hunts.feed f = s.feed f := rfl
@[simp] theorem State.hunts_sweep (s : State) (n : Fin 8) : s.hunts.sweep n = s.sweep n := rfl
@[simp] theorem State.hunts_slot (s : State) (i : Fin 64) : s.hunts.slot i = s.slot i := rfl
@[simp] theorem State.hunts_shelf (s : State) (h : Fin 4) : s.hunts.shelf h = s.shelf h := rfl
@[simp] theorem State.hunts_carrier (s : State) (c : Nat) : s.hunts.carrier c = s.carrier c := rfl
@[simp] theorem State.hunts_service (s : State) (k : Nat) : s.hunts.service k = s.service k := rfl
@[simp] theorem State.hunts_survey (s : State) : s.hunts.survey = s.survey := rfl
@[simp] theorem State.hunts_clock (s : State) : s.hunts.clock = s.clock := rfl
@[simp] theorem State.hunts_params (s : State) : s.hunts.params = s.params := rfl

end Sys2Proof.Machine
end

