-- ==== Sys2Proof/Laws/Shelves.lean ====
section
/-! SUPPORT. Once and for all, what the operations of the Route Link and of the slots leave: a reply reaching its
shelf, the sending of the next order, an order joining its queue, an event posted beside a record's change. -/
namespace Sys2Proof.Machine

/-- A valid reply reaches its shelf (R154, R163). -/
theorem State.alive_hunts (s : State) (h : Fin 4) : (s.shelfHunts h).alive h = s.setShelf h (s.shelf h).heard := by
  simp only [State.alive, State.shelfHunts, State.shelf_setShelf_self, State.setShelf_setShelf]
  congr 1
  cases hs : (s.shelf h).state <;> simp [Shelf.alive, Shelf.heard, hs]

/-- A shelf without an order in flight sends the head of its queue (R158). -/
theorem Shelf.send_idle (x : Shelf) (h : x.inFlight = none) : x.send = x.sendsNext := by
  cases x with
  | mk st nt q fl tmo lo inp =>
    simp only at h
    subst h
    cases st <;> cases q <;> rfl

theorem Shelf.sendsNext_idle (x : Shelf) : ({ x with inFlight := none } : Shelf).sendsNext = x.sendsNext := by
  cases x with
  | mk st nt q fl tmo lo inp => cases q <;> simp only [Shelf.sendsNext]

/-- A shelf with an order in flight, or OFFLINE, sends nothing (R158). -/
theorem Shelf.send_busy (x : Shelf) (h : x.state = .offline ∨ x.inFlight ≠ none) : x.send = x := by
  cases x with
  | mk st nt q fl tmo lo inp =>
    rcases h with h | h
    · simp only at h; subst h; rfl
    · cases fl with
      | none => exact absurd rfl h
      | some f => cases st <;> rfl

theorem State.post_setShelf (k : NoticeKind) (o : Nat) (d : List Byte) (h : Fin 4) (x : Shelf) (s : State) :
    (s.setShelf h x).post k o d = (s.post k o d).setShelf h x := by
  unfold State.post
  by_cases h1 : hasKind s.masks k = true
  · rw [if_pos h1, if_pos (show hasKind (s.setShelf h x).masks k = true from h1)]; rfl
  · rw [if_neg h1, if_neg (show ¬ hasKind (s.setShelf h x).masks k = true from h1)]
    unfold State.placeNotice
    by_cases h2 : s.notices.any (Notice.about k o) = true
    · simp only [State.setShelf_notices, h2, if_true]; rfl
    · simp only [State.setShelf_notices, h2, Bool.false_eq_true, if_false, State.routineCount]
      cases k.urgency
      · by_cases h3 : s.notices.length < Config.noticePlaces
        · simp only [h3, if_true]; rfl
        · by_cases h4 : (s.notices.any fun m => !m.urgent) = true
          · simp only [h3, h4, if_true, if_false]; rfl
          · simp only [h3, h4, Bool.false_eq_true, if_false]; rfl
      · change (if (decide (countWhere (fun n => !n.urgent) s.notices < Config.routinePlaces)
            && decide (s.notices.length < Config.noticePlaces)) = true then _ else _)
          = (fun t : State => t.setShelf h x) (if (decide (countWhere (fun n => !n.urgent) s.notices < Config.routinePlaces)
            && decide (s.notices.length < Config.noticePlaces)) = true then _ else _)
        split <;> rfl

theorem State.post_setSlot (k : NoticeKind) (o : Nat) (d : List Byte) (i : Fin 64) (x : Slot) (s : State) :
    (s.setSlot i x).post k o d = (s.post k o d).setSlot i x := by
  unfold State.post
  by_cases h1 : hasKind s.masks k = true
  · rw [if_pos h1, if_pos (show hasKind (s.setSlot i x).masks k = true from h1)]; rfl
  · rw [if_neg h1, if_neg (show ¬ hasKind (s.setSlot i x).masks k = true from h1)]
    unfold State.placeNotice
    by_cases h2 : s.notices.any (Notice.about k o) = true
    · simp only [State.setSlot_notices, h2, if_true]; rfl
    · simp only [State.setSlot_notices, h2, Bool.false_eq_true, if_false, State.routineCount]
      cases k.urgency
      · by_cases h3 : s.notices.length < Config.noticePlaces
        · simp only [h3, if_true]; rfl
        · by_cases h4 : (s.notices.any fun m => !m.urgent) = true
          · simp only [h3, h4, if_true, if_false]; rfl
          · simp only [h3, h4, Bool.false_eq_true, if_false]; rfl
      · change (if (decide (countWhere (fun n => !n.urgent) s.notices < Config.routinePlaces)
            && decide (s.notices.length < Config.noticePlaces)) = true then _ else _)
          = (fun t : State => t.setSlot i x) (if (decide (countWhere (fun n => !n.urgent) s.notices < Config.routinePlaces)
            && decide (s.notices.length < Config.noticePlaces)) = true then _ else _)
        split <;> rfl

/-- A slot gives a route order (R134, R156): its record, the shelf's tag and queue, and the sending. -/
theorem State.giveOrder_eq (i : Fin 64) (n : CandName) (r : OrderReason) {b : SlotBinding} {c : Carrier} (s : State)
    (h1 : (s.slot i).binding = some b) (h2 : s.carrier n.carrier = some c) :
    s.giveOrder i n r
      = (s.setSlot i
          { s.slot i with
            target := some n, lastReason := some r, challenger := none, wins := 0, state := .switching
            lastTag := some (s.shelf b.shelf).nextTag, lastTarget := some n }).setShelf b.shelf
          ({ s.shelf b.shelf with
            nextTag := (s.shelf b.shelf).nextTag + 1
            lastOrdering := tabSet (s.shelf b.shelf).lastOrdering b.output (some i)
            queue := (s.shelf b.shelf).queue ++
              [⟨(s.shelf b.shelf).nextTag, b.output,
                .set i ⟨c.plan.feed, c.plan.frequency, c.plan.setting, c.plan.rate, c.plan.modulation, n.serviceId⟩, false⟩]
            } : Shelf).send := by
  simp [State.giveOrder, State.handSet, h1, State.routingOf, h2, State.enqueue, State.send]

/-- What a slot lets go of: everything `letGo` can do (R115). -/
theorem State.letGo_eq (n : Option CandName) (s : State) : s.letGo n = s.lets n := by
  unfold State.letGo State.lets
  cases n with
  | none => rfl
  | some n =>
    cases hc : s.candidate? n with
    | none => simp [hc]
    | some e =>
      cases ho : e.2.orphan <;> cases hr : s.referred n <;> simp [hc, ho, hr]
      cases (s.freeCandidate n).service e.1 <;> simp

/-- Nothing is let go of where the candidate is no orphan (R115). -/
theorem State.letGo_known (n : CandName) (s : State) (h : s.noOrphan n) : s.letGo (some n) = (s, []) := by
  simp only [State.letGo]
  cases hc : s.candidate? n with
  | none => rfl
  | some e =>
    obtain ⟨k, x⟩ := e
    simp [h k x hc]

/-- A slot that is in none of the states in which a slot decides is evaluated to no effect (R132). -/
theorem State.evaluate_idle (i : Fin 64) (ev : Option RankReport) (s : State) (h1 : (s.slot i).state ≠ .seeking)
    (h2 : (s.slot i).state ≠ .onAir) : s.evaluate i ev = (s, []) := by
  simp only [State.evaluate]
  split <;> first | rfl | contradiction

@[simp] theorem State.settleReports_nil (s : State) : State.settleReports (s, []) = s := s.handReports_nil

end Sys2Proof.Machine
end

