-- ==== Sys2Proof/Tests/Slice0.lean ====
section
/-! SUPPORT. Tests of the model. The expected values are the guide's own: its worked sequences and cases
(sections 2.9, 3.8, 4.9, 5.9, 6.7, 7.10, 7.11, 9.9, 10.8, 11.5 and 12.5), its tables and its rules. Behind them, for
each obligation with hypotheses, a witness: a concrete state and operands that meet them, clause by clause. -/
namespace Sys2Proof.Tests
open Sys2Proof Sys2Proof.Machine

set_option Elab.async false

/-! ## Small states -/

/-- The state after a command. -/
def after (c : Instr) (s : State) : State :=
  match exec c s with
  | .next t => t
  | _ => s

/-- The command has a next state. -/
def runs (c : Instr) (s : State) : Bool :=
  match exec c s with
  | .next _ => true
  | _ => false

/-- Kind and code of the last reply owed. -/
def answer (s : State) : Option (Byte × ResultCode) := s.replies.getLast?.map fun r => (r.kind, r.code)

/-- Cold start, 5 s later. -/
def base : State := { State.reset with clock := 5000, tickEnd := 5100 }

def terrestrial : Feed := { Feed.cold with kind := .terrestrial, state := .on }
def satellite : Feed := { Feed.cold with kind := .satellite, supply := true, state := .on }
def lowV : Setting := ⟨.low, .vertical⟩
def highH : Setting := ⟨.high, .horizontal⟩

/-- An enabled carrier on feed F0. -/
def carrier12 : Carrier := ⟨⟨0, 474000, none, 8, .tQam64, true⟩, Reception.creation, Content.creation⟩
def disabled (c : Carrier) : Carrier := { c with plan := { c.plan with enabled := false } }
def fresh (c : Carrier) (standing : Nat) : Carrier :=
  { c with reception := { c.reception with state := .fresh, standing := some standing, staleEnd := some 604000 } }

/-- Feed F0 ON, with carrier 12 on it. -/
def plant : State := (base.setFeed 0 terrestrial).setCarrier 12 carrier12

def quality (window : Nat) (q : Requester) : Meas := ⟨.quality, window, 0, false, q⟩

/-- A window that runs, with the given blocks counted. -/
def window (m : Meas) (counted : Nat) : Window :=
  { meas := m, lead := 0, leadDone := 0, counted := counted, locked := counted, levelSum := 100 * counted
    merSum := 200 * counted, erroredSum := 0, observation := none, gathering := none, cut := false }

/-- A path tuned to carrier 12 on feed F0. -/
def tuned (state : PathState) : Path :=
  { Path.cold with
    mode := .manual, state := state, tuned := some 12, tuneRequester := some .probe, tap := some 0
    tuneStart := some 4700, earliestDetach := some 4900 }

def measuring (w : Window) : Path := { tuned .measuring with window := some w, blockEnd := some 5000 }

/-- P6 in the given record. -/
def on6 (x : Path) : State := plant.setPath 6 x

/-- A block of 50 ms with lock. -/
def block : BlockSample := ⟨true, 120, 200, 1, [7]⟩

/-- A QUALITY result of path P1 on a carrier that ended NO_LOCK with no block counted. -/
def noLock (c : Nat) : Result :=
  { path := 1, carrier := c, cls := some .quality, requester := .list, programmed := some 8, counted := 0
    outcome := .noLock, locked := 0, levelSum := 0, levelAvg := none, merSum := 0, erroredSum := 0
    observation := none, announcement := none, stamp := 5000 }

/-- A state with a result in the hand-over of P1. -/
def hand (r : Result) (applies : Bool) (s : State) : State :=
  s.setPath 1 { s.path 1 with outbox := [⟨r, applies⟩] }

/-- Slot 7 on output 5 of shelf S2, bound to service 0x0030 (section 9.9). -/
def slot7 (state : SlotState) (active : Option CandName) : Slot :=
  { Slot.cold with binding := some ⟨0x30, 2, 5⟩, state := state, active := active }

def cand (c service : Nat) : Candidate := ⟨⟨c, service⟩, false, false, true, false⟩

/-- Carriers 12, 20 and 30 FRESH at 640, 590 and 560, and service 0x0030 with a candidate on each. -/
def lineup : State :=
  ((((plant.setCarrier 12 (fresh carrier12 640)).setCarrier 20 (fresh carrier12 590)).setCarrier 30
    (fresh carrier12 560)).setService 0x30 ⟨none, .tv, [], [cand 12 501, cand 20 77, cand 30 501]⟩).setShelf 2
      { Shelf.cold with state := .online, nextTag := 41 }

def onAir : State := lineup.setSlot 7 (slot7 .onAir (some ⟨12, 501⟩))

def routing : Routing := ⟨0, 474000, none, 8, .tQam64, 77⟩
def setOrder : Order := ⟨41, 5, .set 7 routing, false⟩
def clearOrder : Order := ⟨41, 5, .clear, false⟩

/-- Shelf S2 with an order in flight. -/
def flying (s : State) (o : Order) (stage : Stage) (timer : Option Stamp) : State :=
  s.setShelf 2 { Shelf.cold with state := .online, nextTag := 42, inFlight := some ⟨o, stage, timer⟩ }

/-- Slot 7 SWITCHING to (20, 77). -/
def switching : State :=
  lineup.setSlot 7
    { slot7 .switching (some ⟨12, 501⟩) with
      target := some ⟨20, 77⟩, lastReason := some .failover, lastTag := some 41, lastTarget := some ⟨20, 77⟩ }

def entry (c : Nat) (rest : Nat) : SweepEntry := ⟨c, .quality, 8, 0, false, rest, false⟩

/-- List 4 of entries 100 to 102, two passes (section 6.7). -/
def list4 (state : ListState) (position : Nat) : SweepList :=
  { SweepList.cold with descriptor := some ⟨100, 3, 2, true⟩, state := state, position := position }

def notice (k : NoticeKind) (object : Nat) : Notice := ⟨k, object, 1, 4000, []⟩

/-- The queue of Table 12-5: three urgent notices and 27 routine ones. -/
def pressed : State :=
  { base with
    clock := 400100
    notices := [notice .feedFault 2, notice .slotFailover 7, notice .slotSeeking 9]
      ++ (List.range 27).map (notice .listMark) }

/-! ## Well-formed commands -/

def longBody : List Byte := List.replicate 1025 0

theorem test_wellFormed_refuses_long_body :
    ([.planPut 0 longBody, .planDisable 0 longBody, .planErase 0 longBody, .feedSet 0 longBody, .feedEnable 0 longBody
    , .paramSet 0 longBody, .paramGet 0 longBody, .listWrite 0 longBody, .listDefine 0 longBody, .listSeek 0 longBody
    , .pathMode 0 longBody, .probeTune 0 longBody, .probeMeasure 0 longBody, .probeRelease 0 longBody
    , .recheck 0 longBody, .surveyStart 0 longBody, .surveyPause 0 longBody, .surveyResume 0 longBody
    , .surveyStop 0 longBody, .restart 0 longBody, .aliasBind 0 longBody, .aliasUnbind 0 longBody
    , .serviceDrop 0 longBody, .slotSet 0 longBody, .slotClear 0 longBody, .slotPin 0 longBody, .slotUnpin 0 longBody
    , .slotResume 0 longBody, .readCarriers 0 longBody, .readFeeds 0 longBody, .readPaths 0 longBody
    , .readLists 0 longBody, .readServices 0 longBody, .readCandidates 0 longBody, .readSlots 0 longBody
    , .readStatus 0 longBody, .noticeFetch 0 longBody, .noticeMask 0 longBody, .unknownKind 0x7F 0 longBody
    ] : List Instr).all (fun c => !c.wellFormed) = true := by decide +kernel

theorem test_wellFormed_takes_longest_body : (Instr.listWrite 0 (List.replicate 1024 0)).wellFormed = true := by
  decide +kernel

theorem test_wellFormed_refuses_listed_kind :
    (Instr.unknownKind 0x01 0 []).wellFormed = false ∧ (Instr.unknownKind 0x04 0 []).wellFormed = true := by decide

theorem test_wellFormed_refuses_output_16 :
    (Instr.done 0 0 16).wellFormed = false ∧ (Instr.loss 0 16).wellFormed = false
      ∧ (Instr.reject 0 0 16 1).wellFormed = false ∧ (Instr.done 0 0 15).wellFormed = true := by decide

theorem test_wellFormed_refuses_reason :
    (Instr.reject 0 0 0 0).wellFormed = false ∧ (Instr.reject 0 0 0 16).wellFormed = false
      ∧ (Instr.reject 0 0 0 15).wellFormed = true := by decide

theorem test_wellFormed_refuses_unlocked_figures :
    (Instr.blockEnd 0 ⟨false, 70, 1, 0, []⟩).wellFormed = false
      ∧ (Instr.blockEnd 0 ⟨false, 70, 0, 1, []⟩).wellFormed = false
      ∧ (Instr.blockEnd 0 ⟨false, 70, 0, 0, [7]⟩).wellFormed = false
      ∧ (Instr.blockEnd 0 ⟨false, 70, 0, 0, []⟩).wellFormed = true := by decide

/-! ## Frames (R179, R180, R195) -/

/-- The check value of the nine characters 123456789 (R180). -/
theorem test_checkValue : checkValue [0x31, 0x32, 0x33, 0x34, 0x35, 0x36, 0x37, 0x38, 0x39] = 0x29B1 := by decide +kernel

/-- A frame that carries SURVEY_START behind a stray byte starts the survey. -/
theorem test_frame_runs_its_request :
    (after (.frameError (goodChars (0x00 :: frameBytes 0x30 7 []))) base).survey = .running := by decide +kernel

/-- A bad stop bit inside a frame owes FRAME_ERROR. -/
theorem test_bad_stop_discards :
    answer (after (.frameError [⟨0xA5, true⟩, ⟨0x00, false⟩]) base) = some (0xFF, .frameError) := by decide +kernel

/-- An unlisted kind gets UNKNOWN_KIND with 0x80 added to it, or unchanged where it is 0x80 or above (R195). -/
theorem test_unknownKind :
    answer (after (.unknownKind 0x05 1 []) base) = some (0x85, .unknownKind)
      ∧ answer (after (.unknownKind 0x90 1 []) base) = some (0x90, .unknownKind) := by decide +kernel

/-! ## Scores (section 7.10, R96, R104) -/

theorem test_score_worked_case : scoreOf 85 ⟨100, 160⟩ 8 7 981 805 3 = 214 := by decide

theorem test_score_level_below_window : scoreOf 85 ⟨100, 160⟩ 8 7 (95 * 8) 805 3 = 170 := by decide

theorem test_standing_moves :
    smooth 4 (some 300) 214 = 278 ∧ smooth 2 (some 300) 214 = 289 ∧ smooth 4 (some 278) 280 = 279
      ∧ smooth 4 (some 278) 279 = 279 ∧ smooth 4 (some 278) 278 = 278 ∧ smooth 4 (some 278) 270 = 276 := by decide

theorem test_standing_order_matters :
    smooth 4 (some (smooth 4 (some 400) 200)) 600 = 413 ∧ smooth 4 (some (smooth 4 (some 400) 600)) 200 = 387 := by
  decide

/-- Section 7.11: the third miss makes a carrier LOST, with its standing kept. -/
theorem test_third_miss_loses :
    let c := fresh carrier12 278
    let s := plant.setCarrier 12 { c with reception := { c.reception with misses := 2, levelAvg := some 70 } }
    ((after (.noLockMiss 1) (hand (noLock 12) true s)).carrier 12).map (fun x =>
      (x.reception.state, x.reception.standing, x.reception.misses, x.reception.levelAvg, x.reception.staleEnd))
      = some (.lost, some 278, 3, some 70, none) := by decide +kernel

/-! ## Requests -/

/-- PLAN_PUT of a rate out of range fails on the sixth field (R183, Table 13-4). -/
theorem test_planPut_creates_and_refuses :
    let body (rate : Byte) : List Byte := [14, 0] ++ le32 482000 ++ [0xFF, 0xFF] ++ [rate, 0] ++ [7, 1]
    answer (after (.planPut 1 (body 8)) plant) = some (0x81, .ok)
      ∧ answer (after (.planPut 1 (body 9)) plant) = some (0x81, .outOfRange) := by decide +kernel

/-- PLAN_ERASE is refused on an enabled carrier and NOT_FOUND on an unused one. -/
theorem test_planErase_refusals :
    answer (after (.planErase 1 [12]) plant) = some (0x83, .inUse)
      ∧ answer (after (.planErase 1 [13]) plant) = some (0x83, .notFound) := by decide +kernel

/-- A body one byte too long is BAD_LENGTH (R183). -/
theorem test_bad_length : answer (after (.surveyStart 1 [0]) base) = some (0xB0, .badLength) := by decide +kernel

/-- The smoothing factor is held within 1 to 16, and the reply carries the set (R185). -/
theorem test_paramSet_clamps :
    (after (.paramSet 1 [10, 40, 0]) base).params.smoothing = 16
      ∧ (after (.paramSet 1 [10, 0, 0]) base).params.smoothing = 1 := by decide +kernel

/-- Section 6.7 at 11,400 ms: entry 100 is in flight, so 102 becomes the pending seek. -/
theorem test_listSeek_pends :
    let s := base.setSweep 4 { list4 .running 100 with stage := .inFlight }
    ((after (.listSeek 1 [4, 102, 0]) s).sweep 4).seek = some 102
      ∧ ((after (.listSeek 1 [4, 102, 0]) s).sweep 4).position = 100 := by decide +kernel

/-- Section 4.9 at 5,410 ms: a RELEASING path is BUSY for a tune. -/
theorem test_probeTune_busy :
    answer (after (.probeTune 1 [6, 12]) (on6 (tuned .releasing))) = some (0xA1, .busy) := by decide +kernel

/-- Section 4.9 at 5,230 ms: a measure taken in block 2 of an 8-block window cuts it. -/
theorem test_probeMeasure_cuts :
    ((after (.probeMeasure 1 [6, 0, 4, 2, 0]) (on6 (measuring (window (quality 8 .probe) 2)))).path 6).window.map
      (·.cut) = some true := by decide +kernel

/-- Section 12.5 at 400,700 ms: a fetch of 16 leaves the marker and the count. -/
theorem test_noticeFetch_full_leaves_marker :
    let s := after (.noticeFetch 1 [16]) { pressed with overflowCount := 2, overflowMarker := true }
    (s.notices.length, s.overflowCount, s.overflowMarker, s.attn) = (14, 2, true, true) := by decide +kernel

/-- NOTICE_MASK of LIST_DONE sets bit 8 of the set (Table 13-8). -/
theorem test_noticeMask_bit : (after (.noticeMask 1 [8, 1]) base).masks = 0x100 := by decide +kernel

/-- Section 11.5: a START in STOPPING is refused. -/
theorem test_surveyStart_in_stopping :
    answer (after (.surveyStart 1 []) { base with survey := .stopping }) = some (0xB0, .wrongState) := by decide +kernel

/-- SURVEY_STATE tells the state before and after (section 11.5). -/
theorem test_surveyStop_posts :
    (after (.surveyStop 1 []) { base with survey := .running }).notices.map (fun n => (n.kind, n.detail))
      = [(.surveyState, [3, 0, 1])] := by decide +kernel

/-! ## Feeds and paths -/

/-- Section 3.8 at 1,210 ms: the last user leaves, and the feed takes the setting of the head of its list. -/
theorem test_earliestDetach_changes_setting :
    let s := (base.setFeed 0 { satellite with setting := some lowV, waiting := [2] }).setCarrier 60
      { carrier12 with plan := ⟨0, 1200000, some highH, 27500, .psk8, true⟩ }
    let s := (s.setPath 1 (tuned .releasing)).setPath 2 { Path.cold with state := .waitFeed, tuned := some 60 }
    let t := after (.earliestDetach 1) s
    ((t.feed 0).state, (t.feed 0).setting, (t.feed 0).settleEnd, (t.feed 0).waiting)
      = (.setting, some highH, some 5040, [2]) := by decide +kernel

/-- Section 3.8 at 1,250 ms: P2 attaches, P3 needs another setting and keeps its place, and P4's tune start is held
by the tune spacing. -/
theorem test_settingSettleEnd_scans :
    let c (st : Setting) : Carrier := { carrier12 with plan := ⟨0, 1200000, some st, 27500, .psk8, true⟩ }
    let waits (n : Nat) : Path := { Path.cold with mode := .list, state := .waitFeed, tuned := some n }
    let s := base.setFeed 0
      { satellite with
        state := .setting, setting := some highH, waiting := [2, 3, 4], settleEnd := some 5000
        lastTuneStart := some 940 }
    let s := ((s.setCarrier 60 (c highH)).setCarrier 31 (c lowV)).setCarrier 61 (c highH)
    let s := ((s.setPath 2 (waits 60)).setPath 3 (waits 31)).setPath 4 (waits 61)
    let t := after (.settingSettleEnd 0) s
    ((t.path 2).state, (t.path 2).tuneStart, (t.path 4).state, (t.path 4).tuneDue, (t.feed 0).waiting
      , (t.feed 0).lastTuneStart) = (.settling, some 5000, .waitFeed, some 5010, [3], some 5010) := by decide +kernel

/-- Section 3.8 at 1,300 ms. -/
theorem test_overcurrent :
    let t := after (.overcurrentEvent 0) (base.setFeed 0 satellite)
    ((t.feed 0).state, (t.feed 0).faultCount, (t.feed 0).retryEnd) = (.fault, 1, some 6000)
      ∧ t.notices.map (fun n => (n.kind, n.object, n.detail)) = [(.feedFault, 0, [1])] := by decide +kernel

/-- Section 4.9 at 5,345 ms: the cut window ends after 4 blocks, and the held window begins. -/
theorem test_blockEnd_cuts :
    let w := window (quality 8 .probe) 3
    let t := after (.blockEnd 6 block) (on6 { measuring { w with cut := true } with held := some (quality 4 .probe) })
    ((t.path 6).outbox.map fun h => (h.result.outcome, h.result.counted, h.result.programmed))
        = [(.partialWindow, 4, some 8)]
      ∧ (t.path 6).window.map (fun v => (v.meas.window, v.counted, v.lead)) = some (4, 0, 0) := by decide +kernel

/-- Section 5.9 at 20,690 ms: a section of another version begins the gathering again. -/
theorem test_section_of_new_version :
    let m : Meas := ⟨.content, 4, 0, false, .probe⟩
    let g : Gathering := ⟨some ⟨⟨0x2210, 0x31⟩, 7, 2⟩, [⟨0, []⟩, ⟨2, []⟩]⟩
    let s := on6 (measuring { window m 0 with gathering := some g })
    ((after (.announcementSection 6 ⟨0x2210, 0x31, 8, 1, 2, []⟩) s).path 6).window.map (·.gathering)
      = some (some ⟨some ⟨⟨0x2210, 0x31⟩, 8, 2⟩, [⟨1, []⟩]⟩) := by decide +kernel

/-- Section 4.9 at 5,545 ms: the detach starts a recovery of 20 ms. -/
theorem test_earliestDetach :
    ((after (.earliestDetach 6) (on6 (tuned .releasing))).path 6).recoveryEnd = some 5020 := by decide +kernel

/-- Section 6.7 at 10,700 ms: the rest ends and the list advances. -/
theorem test_restEnd_advances :
    let t := after (.restEnd 4) ((base.setSweep 4 (list4 .resting 100)))
    ((t.sweep 4).state, (t.sweep 4).position) = (.running, 101) := by decide +kernel

/-- Section 6.7: a boundary takes one from the counter of a resting list, and the next is 100 ms later. -/
theorem test_tickBoundary :
    let s := { base with clock := 5100 }.setSweep 4 { list4 .resting 100 with rest := 3, restBegan := some 5085 }
    let t := after .tickBoundary s
    ((t.sweep 4).rest, t.tickEnd) = (2, 5200) := by decide +kernel

/-! ## Slots and shelves -/

/-- Section 9.9 at 201,030 ms: the third miss on the active source makes slot 7 fail over to (64, 77), here (20, 77). -/
theorem test_failover :
    let c := fresh carrier12 640
    let s := onAir.setCarrier 12 { c with reception := { c.reception with misses := 2 } }
    let t := after (.noLockMiss 1) (hand (noLock 12) true s)
    ((t.slot 7).state, (t.slot 7).active, (t.slot 7).target, (t.slot 7).lastReason, (t.slot 7).lastTag)
      = (.switching, some ⟨12, 501⟩, some ⟨20, 77⟩, some .failover, some 41) := by decide +kernel

/-- Section 9.9 at 202,900 ms: a refused route bars its target for the hold-down of 120 s. -/
theorem test_reject_bars :
    let t := after (.reject 2 41 5 3) (flying switching setOrder .awaitingDone (some 9000))
    ((t.slot 7).bar, (t.slot 7).failures) = (some ⟨⟨20, 77⟩, 125000⟩, 1) := by decide +kernel

/-- Section 9.9 at 204,400 ms: DONE puts the target on air and starts the hold-down. -/
theorem test_done_puts_on_air :
    let t := after (.done 2 41 5) (flying switching setOrder .awaitingDone (some 9000))
    ((t.slot 7).state, (t.slot 7).active, (t.slot 7).holdEnd) = (.onAir, some ⟨20, 77⟩, some 125000) := by
  decide +kernel

/-- Section 10.8 at 50,750 ms: the third timeout in a row takes the shelf OFFLINE. -/
theorem test_third_timeout :
    let s := flying switching setOrder .awaitingAccept (some 5000)
    let t := after (.acceptTimerEnd 2) (s.setShelf 2 { s.shelf 2 with timeouts := 2 })
    ((t.shelf 2).state, (t.shelf 2).timeouts) = (.offline, 3)
      ∧ (t.notices.filter fun n => n.kind = .shelfOffline).map (·.detail) = [[41, 0, 5, 0]] := by decide +kernel

/-- Section 10.8 at 52,000 ms: READY brings the shelf back, and a slot ON_AIR gives a RESYNC order. -/
theorem test_ready_resyncs :
    let t := after (.ready 2) onAir
    ((t.slot 7).state, (t.slot 7).target, (t.slot 7).lastReason) = (.switching, some ⟨12, 501⟩, some .resync)
      ∧ (t.shelf 2).nextTag = 42 := by decide +kernel

/-- Section 10.8 at 53,600 ms: a late DONE is believed by a slot in FAULT that has ordered nothing since. -/
theorem test_late_done :
    let z := slot7 .fault (some ⟨12, 501⟩)
    let s := lineup.setSlot 7
      { z with failures := 2, bar := some ⟨⟨20, 77⟩, 9000⟩, lastTag := some 19, lastTarget := some ⟨20, 77⟩ }
    let t := after (.done 2 19 5) s
    ((t.slot 7).state, (t.slot 7).active, (t.slot 7).bar, (t.slot 7).failures) = (.onAir, some ⟨20, 77⟩, none, 0) := by
  decide +kernel

/-- Section 9.9 at 324,400 ms: the hold-down ends, and enough wins give a BETTER order. -/
theorem test_holdDownEnd_orders :
    let s := lineup.setSlot 7
      { slot7 .onAir (some ⟨30, 501⟩) with challenger := some ⟨12, 501⟩, wins := 4, holdEnd := some 5000 }
    let t := after (.holdDownEnd 7) s
    ((t.slot 7).state, (t.slot 7).target, (t.slot 7).lastReason) = (.switching, some ⟨12, 501⟩, some .better) := by
  decide +kernel

/-- Cold start by RESET (R178). -/
theorem test_reset : after .reset onAir = State.reset := by decide +kernel

/-! ## Witnesses: the machine and its laws

Each theorem from here on gives states and operands that meet the hypotheses of the obligation it is named for, every
clause at a boundary of its range where it has one. -/

theorem witness_StepRunsFrontCommand :
    { base with pending := [.ready 0] }.pending = .ready 0 :: []
      ∧ base.pending = [] ∧ base.dueEvent = none
      ∧ { base with clock := 5100 }.dueEvent = some .tickBoundary := by decide +kernel

theorem witness_EveryCommandCompletes :
    runs .reset onAir = true ∧ runs (.done 3 255 15) onAir = true ∧ runs (.planPut 0 longBody) base = true := by
  decide +kernel

/-- Four urgent and 28 routine notices: the queue at its bounds. -/
def crowded : State :=
  { pressed with notices := pressed.notices.take 3 ++ notice .shelfOffline 1 :: (List.range 28).map (notice .listMark) }

theorem witness_NoticeQueueLawKept :
    crowded.noticesOk = true ∧ ∃ t, step { crowded with pending := [.overcurrentEvent 0] } = .next t :=
  ⟨by decide +kernel, _, rfl⟩

/-- Four paths on feed F0: its taps are all taken. -/
def tapped : State := [0, 1, 2, 3].foldl (fun s p => s.setPath p (tuned .locked)) plant

theorem witness_TapLawKept :
    tapped.tapsOk = true ∧ tapped.users 0 = 4 ∧ ∃ t, step { tapped with pending := [.probeTune 1 [6, 12]] } = .next t :=
  ⟨by decide +kernel, by decide +kernel, _, rfl⟩

theorem witness_SlotLawKept :
    switching.slotsOk = true ∧ ∃ t, step { switching with pending := [.slotClear 1 [7]] } = .next t :=
  ⟨by decide +kernel, _, rfl⟩

/-- A full Recheck Queue: one URGENT entry and 23 ROUTINE ones. -/
def fullQueue : State :=
  { plant with
    recheckQueue :=
      ⟨57, .quality, .urgent, .activeMiss, 4000⟩
        :: (List.range 23).map fun c => ⟨100 + c, .quality, .routine, .challenger, 4000⟩ }

theorem witness_RecheckQueueLawKept :
    fullQueue.rechecksOk = true ∧ fullQueue.recheckQueue.length = 24
      ∧ ∃ t, step { fullQueue with pending := [.recheck 1 [12, 0, 0]] } = .next t :=
  ⟨by decide +kernel, by decide +kernel, _, rfl⟩

theorem witness_TablesStayCanonical :
    onAir.tablesOk = true ∧ ∃ t, step { onAir with pending := [.planDisable 1 [12]] } = .next t :=
  ⟨by decide +kernel, _, rfl⟩

/-- An alias takes its place by its pair (R195); aliases out of order, or of one pair twice, are not lawful (R108). -/
theorem test_aliases_rise :
    let s : State := { lineup with bindings := [⟨⟨1, 2⟩, 0x30⟩, ⟨⟨1, 5⟩, 0x30⟩] }
    let t := after (.aliasBind 1 [1, 0, 3, 0, 0x30, 0]) s
    s.tablesOk = true ∧ t.tablesOk = true ∧ t.bindings.map (·.pair.serviceId) = [2, 3, 5]
      ∧ { s with bindings := s.bindings.reverse }.tablesOk = false
      ∧ { s with bindings := ⟨⟨1, 2⟩, 0x31⟩ :: s.bindings }.tablesOk = false := by decide +kernel

/-! ## Witnesses: the Control Link -/

theorem witness_FrameRoundTrip :
    base.frameInput = .hunting ∧ (∀ b ∈ ([0x00, 0xA4] : List Byte), b ≠ 0xA5)
      ∧ ([] : List Byte).length ≤ 1024 ∧ (List.replicate 1024 (0xA5 : Byte)).length ≤ 1024 := by decide +kernel

/-- A reply owed to a request. -/
def owed (code : ResultCode) : Reply := ⟨0xB0, 1, code, []⟩
def owes (l : List Reply) : State := { base with replies := l }

/-- Three outstanding requests; bodies one byte too long, with no item, cut short, and with no record for the count. -/
theorem witness_RequestGetsOneReply :
    let s := owes [owed .ok, owed .ok, owed .ok]
    requestOf (.surveyStart 1 []) = some ⟨0x30, 1, []⟩ ∧ s.takes = true
      ∧ requestOf (.unknownKind 0x7F 1 []) = some ⟨0x7F, 1, []⟩ ∧ ¬ 0x7F ∈ requestKinds
      ∧ requestOf (.unknownKind 0x80 1 []) = some ⟨0x80, 1, []⟩ ∧ ¬ 0x80 ∈ requestKinds
      ∧ (List.replicate 1024 (0 : Byte)).length ≤ 1024
      ∧ requestOf (.planPut 1 (List.replicate 13 0)) = some ⟨0x01, 1, List.replicate 13 0⟩
      ∧ bodyLength 0x01 = some 12 ∧ (List.replicate 13 (0 : Byte)).length ≠ 12
      ∧ requestOf (.paramSet 1 [4, 50]) = some ⟨0x10, 1, [4, 50]⟩ ∧ paramItems [4, 50] = none
      ∧ requestOf (.listWrite 1 [0, 0, 1]) = some ⟨0x18, 1, [0, 0, 1]⟩ ∧ [(0 : Byte), 0, 1].length < 4
      ∧ requestOf (.listWrite 1 [0, 0, 1, 0]) = some ⟨0x18, 1, [0, 0, 1, 0]⟩
      ∧ rawEntries ((1 : Byte).toNat + 256 * (0 : Byte).toNat) [] = none := by decide +kernel

/-- Four outstanding requests, with no FRAME_ERROR owed, with one owed, and behind a request that waits. -/
theorem witness_RequestNotTaken :
    let full := owes [owed .ok, owed .ok, owed .ok, owed .ok]
    let erring := owes [owed .ok, owed .ok, ⟨0xFF, 0, .frameError, []⟩, owed .ok, owed .ok]
    let waits (l : List Awaiting) : State := { owes [owed .ok, owed .ok] with waiting := l }
    let one : Awaiting := .request ⟨0x57, 1, []⟩
    let two := waits [one, one]
    let late := waits [one, .frameError, one]
    requestOf (.readStatus 1 []) = some ⟨0x57, 1, []⟩
      ∧ 1024 < longBody.length ∧ 4 ≤ full.outstanding ∧ 4 ≤ erring.outstanding
      ∧ (∀ x ∈ full.replies, x.code ≠ .frameError) ∧ full.waiting = [] ∧ .frameError ∉ full.waiting
      ∧ (∃ x ∈ erring.replies, x.code = .frameError)
      ∧ 4 ≤ two.outstanding ∧ (∀ x ∈ two.replies, x.code ≠ .frameError) ∧ .frameError ∉ two.waiting ∧ two.waiting ≠ []
      ∧ 4 ≤ late.outstanding ∧ .frameError ∈ late.waiting
      ∧ { base with restarting := some .all }.outstanding < 4 ∧ { base with restarting := some .all }.restarting ≠ none
      ∧ (waits [one]).waiting ≠ [] ∧ (waits [one]).outstanding < 4 := by decide +kernel

theorem witness_BadFramesAreDiscarded :
    let erring := owes [⟨0xFF, 0, .frameError, []⟩]
    let waits : State := { base with waiting := [.request ⟨0x57, 1, []⟩] }
    let gap (n : Stamp) : State := { base with frameInput := .receiving [0x00] (5000 - n) }
    [(0 : Byte), 0] ≠ checkBytes (le16 0 ++ 0x30 :: 1 :: []) ∧ base.frameInput = .hunting
      ∧ erring.frameInput = .hunting ∧ (base.shelf 2).input = .hunting
      ∧ (∀ x ∈ base.replies, x.code ≠ .frameError) ∧ .frameError ∉ base.waiting ∧ base.waiting = []
      ∧ (∃ x ∈ erring.replies, x.code = .frameError)
      ∧ waits.frameInput = .hunting ∧ (∀ x ∈ waits.replies, x.code ≠ .frameError) ∧ .frameError ∉ waits.waiting
      ∧ waits.waiting ≠ []
      ∧ (gap 21).frameInput = .receiving [0x00] 4979 ∧ 20 < ((gap 21).clock - 4979).toNat
      ∧ (∀ x ∈ (gap 21).replies, x.code ≠ .frameError) ∧ (gap 21).waiting = []
      ∧ (gap 20).frameInput = .receiving [0x00] 4980 ∧ ((gap 20).clock - 4980).toNat ≤ 20
      ∧ (owes [owed .ok, owed .busy]).replies = owed .ok :: [owed .busy] := by decide +kernel

/-- A partial frame of the Control Link whose latest byte is `n` ms old. -/
def partialFrame (n : Stamp) (s : State) : State := { s with frameInput := .receiving [0x00] (s.clock - n) }

/-- R179, R181: a request command finds a frame that is 21 ms late discarded, its FRAME_ERROR ahead of the reply. -/
theorem test_late_frame_before_request :
    (after (.readStatus 1 []) (partialFrame 21 base)).replies.map (fun r => (r.kind, r.tag, r.code))
      = [(0xFF, 0, .frameError), (0xD7, 1, .ok)] := by decide +kernel

/-- R179: at 20 ms the gap has not passed, and nothing is owed (assumption log 8). -/
theorem test_prompt_frame_before_request :
    (after (.readStatus 1 []) (partialFrame 20 base)).replies.map (fun r => (r.kind, r.tag, r.code))
      = [(0xD7, 1, .ok)] := by decide +kernel

theorem witness_BadFramesAreDiscarded_late :
    let waits := partialFrame 21 { base with waiting := [.request ⟨0x57, 1, []⟩] }
    let erring := partialFrame 21 (owes [⟨0xFF, 0, .frameError, []⟩])
    waits.frameInput = .receiving [0x00] 4979 ∧ 20 < (waits.clock - 4979).toNat
      ∧ (∀ x ∈ waits.replies, x.code ≠ .frameError) ∧ .frameError ∉ waits.waiting ∧ waits.waiting ≠ []
      ∧ erring.frameInput = .receiving [0x00] 4979 ∧ 20 < (erring.clock - 4979).toNat
      ∧ (∃ x ∈ erring.replies, x.code = .frameError)
      ∧ requestOf (.readStatus 1 []) = some ⟨0x57, 1, []⟩
      ∧ (after .frameGapTimeout waits).waiting = [.request ⟨0x57, 1, []⟩, .frameError] := by decide +kernel

/-- A frame of length 1025, one whose body no shelf reply has, and frames in reception on both lines at the gap's bound. -/
theorem witness_BadFramesAreDiscarded_lines :
    let line (n : Stamp) (got : List Byte) : State :=
      base.setShelf 2 { Shelf.cold with input := .receiving got (5000 - n) }
    1024 < (1 : Byte).toNat + 256 * (4 : Byte).toNat ∧ ¬ 1024 < (0 : Byte).toNat + 256 * (4 : Byte).toNat
      ∧ ¬ (((0x81 : Byte) = 0x81 ∨ (0x81 : Byte) = 0x85) ∧ [(5 : Byte)].length = 0
        ∨ ((0x81 : Byte) = 0x82 ∨ (0x81 : Byte) = 0x84) ∧ [(5 : Byte)].length = 1
        ∨ (0x81 : Byte) = 0x83 ∧ [(5 : Byte)].length = 2)
      ∧ (partialFrame 20 base).frameInput = .receiving [0x00] 4980
      ∧ (({ base with frameInput := .receiving [] 4980 } : State).clock - 4980).toNat ≤ 20
      ∧ ((line 20 []).shelf 2).input = .receiving [] 4980 ∧ ((line 20 []).clock - 4980).toNat ≤ 20
      ∧ ((line 21 [0]).shelf 2).input = .receiving [0] 4979 ∧ 20 < ((line 21 [0]).clock - 4979).toNat := by decide +kernel

/-- A shelf frame of which 21 ms are missing is discarded before its last byte is taken; at 20 ms the ACCEPT is whole, and
the order in flight awaits its DONE (R154). -/
theorem test_shelf_gap :
    let s (n : Stamp) : State :=
      let x := flying lineup setOrder .awaitingAccept (some 5250)
      x.setShelf 2 { x.shelf 2 with input := .receiving (((frameBytes 0x81 41 []).drop 1).dropLast) (5000 - n) }
    let t (n : Stamp) : State := after (.shelfFrameDiscard 2 (goodChars [(frameBytes 0x81 41 []).getLastD 0])) (s n)
    (((t 21).shelf 2).inFlight.map (·.stage), ((t 21).shelf 2).input) = (some .awaitingAccept, .hunting)
      ∧ ((t 20).shelf 2).inFlight.map (·.stage) = some .awaitingDone := by decide +kernel

/-- The late frame's FRAME_ERROR among the hypotheses of RequestNotTaken and RequestGetsOneReply. -/
theorem witness_RequestNotTaken_late :
    let full := partialFrame 21 (owes [owed .ok, owed .ok, owed .ok, owed .ok])
    4 ≤ full.outstanding ∧ (∃ x ∈ full.hunts.replies, x.code = .frameError)
      ∧ (partialFrame 21 base).takes = true ∧ (partialFrame 21 base).hunts.replies.length = 1 := by decide +kernel

/-! ## Witnesses: the plan, the feeds, the parameters -/

theorem witness_PlanPutCreates :
    let sat := plant.setFeed 1 { satellite with state := .off }
    plant.takes = true ∧ plant.carrier 14 = none ∧ plant.held 14 = false
      ∧ Plan.fits ⟨0, 170000, none, 6, .tQpsk, false⟩ (plant.feed 0).kind = true
      ∧ Plan.fits ⟨0, 862000, none, 8, .tQam64, true⟩ (plant.feed 0).kind = true
      ∧ sat.takes = true ∧ sat.carrier 255 = none ∧ sat.held 255 = false
      ∧ Plan.fits ⟨1, 2150000, some highH, 45000, .apsk16, true⟩ (sat.feed 1).kind = true
      ∧ Plan.fits ⟨1, 950000, some lowV, 1000, .qpsk, true⟩ (sat.feed 1).kind = true := by decide +kernel

/-- Each refusal at the bounds of Table 2-2: a feed above 5 and one of kind NONE, and each further field by its kind. -/
theorem witness_PlanPutCreates_ranges :
    let sat := plant.setFeed 1 satellite
    let cable := plant.setFeed 2 { terrestrial with kind := .cable }
    let within (lo hi : Nat) (l : List Byte) : Bool :=
      let v := l.foldr (fun b n => b.toNat + 256 * n) 0
      decide (lo ≤ v ∧ v ≤ hi)
    (plant.takes = true ∧ 6 ≤ (6 : Byte).toNat ∧ (plant.feed 5).kind = .noKind ∧ (5 : Fin 6).1 = (5 : Byte).toNat)
    ∧ ((plant.feed 0).kind = .terrestrial ∧ within 170000 862000 (le32 169999) = false
      ∧ within 170000 862000 (le32 862001) = false ∧ within 170000 862000 (le32 862000) = true ∧ (0xFE : Byte) ≠ 0xFF
      ∧ within 6 8 (le16 5) = false ∧ within 6 8 (le16 8) = true ∧ ¬ ((4 : Byte) = 5 ∨ (4 : Byte) = 6 ∨ (4 : Byte) = 7)
      ∧ 1 < (2 : Byte).toNat)
    ∧ (sat.takes = true ∧ (sat.feed 1).kind = .satellite ∧ within 950000 2150000 (le32 949999) = false
      ∧ within 950000 2150000 (le32 2150000) = true ∧ ¬ ((2 : Byte) = 0 ∨ (2 : Byte) = 1)
      ∧ within 1000 45000 (le16 45001) = false ∧ within 1000 45000 (le16 1000) = true
      ∧ ¬ ((3 : Byte) = 0 ∨ (3 : Byte) = 1 ∨ (3 : Byte) = 2))
    ∧ (cable.takes = true ∧ (cable.feed 2).kind = .cable ∧ within 110000 862000 (le32 109999) = false
      ∧ within 110000 862000 (le32 110000) = true ∧ within 1000 7200 (le16 7201) = false
      ∧ within 1000 7200 (le16 7200) = true ∧ ¬ ((2 : Byte) = 3 ∨ (2 : Byte) = 4)) := by decide +kernel

theorem witness_PlanPutRewrites :
    let off := plant.setCarrier 12 (disabled carrier12)
    let held := off.setPath 6 (tuned .locked)
    let moved : Plan := { carrier12.plan with frequency := 482000 }
    plant.takes = true ∧ plant.carrier 12 = some carrier12 ∧ carrier12.plan.enabled = true
      ∧ carrier12.plan.fits (plant.feed 0).kind = true
      ∧ off.takes = true ∧ off.carrier 12 = some (disabled carrier12) ∧ (disabled carrier12).plan.enabled = false
      ∧ off.held 12 = false ∧ held.takes = true ∧ held.carrier 12 = some (disabled carrier12) ∧ held.held 12 = true
      ∧ carrier12.plan.fits (held.feed 0).kind = true
      ∧ moved.fits (off.feed 0).kind = true ∧ moved.frequency ≠ (disabled carrier12).plan.frequency := by decide +kernel

/-- A path that recovers holds the carrier of its held tune alone, and one that is parked none (R4). -/
theorem test_held :
    let recovering : Path := { Path.cold with state := .recovering, heldTune := some ⟨12, .probe, none⟩ }
    (on6 recovering).held 12 = true ∧ (on6 { recovering with heldTune := none, tuned := some 12 }).held 12 = false
      ∧ (on6 { recovering with state := .parked }).held 12 = false ∧ (on6 (tuned .waitFeed)).held 12 = true
      ∧ (on6 (tuned .releasing)).held 12 = true ∧ (on6 (tuned .releasing)).held 20 = false := by decide +kernel

/-- A disabled carrier with candidates on it whose tuning stays: the rate, the modulation, the flag or nothing changes. -/
theorem witness_PlanPutRewrites_reports :
    let off := lineup.setCarrier 12 (disabled (fresh carrier12 640))
    let x := disabled (fresh carrier12 640)
    let slower : Plan := { carrier12.plan with rate := 6 }
    let other : Plan := { x.plan with modulation := .tQpsk }
    off.takes = true ∧ off.carrier 12 = some x ∧ x.plan.enabled = false ∧ off.held 12 = false
      ∧ off.servicesOn 12 = [0x30]
      ∧ (slower.fits (off.feed 0).kind = true ∧ slower.feed = x.plan.feed ∧ slower.frequency = x.plan.frequency
        ∧ slower.setting = x.plan.setting ∧ slower.rate ≠ x.plan.rate ∧ slower.enabled = true)
      ∧ (other.fits (off.feed 0).kind = true ∧ other.rate = x.plan.rate ∧ other.modulation ≠ x.plan.modulation)
      ∧ (carrier12.plan.fits (off.feed 0).kind = true ∧ carrier12.plan.rate = x.plan.rate
        ∧ carrier12.plan.modulation = x.plan.modulation ∧ carrier12.plan.enabled = true)
      ∧ x.plan.fits (off.feed 0).kind = true := by decide +kernel

/-- A slot in SEEKING takes up a carrier that is enabled again at once, and not one whose rate has changed, which is
UNMEASURED (R7, R113). -/
theorem test_planPut_enables :
    let off := (lineup.setCarrier 12 (disabled (fresh carrier12 640))).setService 0x30 ⟨none, .tv, [], [cand 12 501]⟩
    let s := off.setSlot 7 (slot7 .seeking none)
    let put (p : Plan) : State := after (.planPut 1 (p.body 12)) s
    ((put carrier12.plan).slot 7).target = some ⟨12, 501⟩
      ∧ ((put { carrier12.plan with rate := 6 }).slot 7).state = .seeking := by decide +kernel

/-- Two LIST paths LOCKED on carrier 12: P2, whose earliest detach is ahead, and P3, whose earliest detach has passed. -/
def bothLocked : State :=
  (plant.setPath 2 { tuned .locked with mode := .list, earliestDetach := some 5001 }).setPath 3
    { tuned .locked with mode := .list }

theorem witness_PlanDisableTakesOutOfService :
    let off := plant.setCarrier 12 (disabled carrier12)
    plant.takes = true ∧ plant.carrier 13 = none
      ∧ off.takes = true ∧ off.carrier 12 = some (disabled carrier12) ∧ (disabled carrier12).plan.enabled = false
      ∧ bothLocked.takes = true ∧ bothLocked.carrier 12 = some carrier12 ∧ carrier12.plan.enabled = true
      ∧ (∀ p ∈ ([2, 3] : List (Fin 8)), (bothLocked.path p).mode = .list ∧ (bothLocked.path p).state = .locked
        ∧ (bothLocked.path p).tuned = some 12 ∧ ∀ f, p ∉ (bothLocked.feed f).waiting) := by decide +kernel

/-- PLAN_DISABLE sends both of them RELEASE (R8, R47). -/
theorem test_planDisable_releases :
    let t := after (.planDisable 1 [12]) bothLocked
    ((t.path 2).state, (t.path 3).state, (t.path 3).recoveryEnd) = (.releasing, .recovering, some 5020) := by
  decide +kernel

theorem witness_PlanEraseFreesIndex :
    let off := lineup.setCarrier 12 (disabled carrier12)
    let held := off.setPath 6 (tuned .locked)
    let named := onAir.setCarrier 12 (disabled carrier12)
    plant.takes = true ∧ plant.carrier 13 = none ∧ plant.carrier 12 = some carrier12 ∧ carrier12.plan.enabled = true
      ∧ off.takes = true ∧ off.carrier 12 = some (disabled carrier12) ∧ (disabled carrier12).plan.enabled = false
      ∧ off.held 12 = false ∧ off.candidatesOn 12 = [cand 12 501]
      ∧ (∀ y ∈ off.candidatesOn 12, off.referred y.name = false)
      ∧ held.takes = true ∧ held.carrier 12 = some (disabled carrier12) ∧ held.held 12 = true
      ∧ named.takes = true ∧ named.carrier 12 = some (disabled carrier12) ∧ named.held 12 = false
      ∧ (∃ y ∈ named.candidatesOn 12, named.referred y.name = true) := by decide +kernel

/-- The fields at the bounds of their ranges; feeds that are attached to, waited for, ON, and named by a carrier. -/
theorem witness_FeedSetWritesRecord :
    let waits := base.setFeed 5 { Feed.cold with waiting := [2] }
    let named := plant.setFeed 0 { terrestrial with state := .off }
    (base.takes = true ∧ 6 ≤ (6 : Byte).toNat ∧ (5 : Byte).toNat < 6 ∧ 4 ≤ (4 : Byte).toNat ∧ (3 : Byte).toNat < 4
      ∧ 2 ≤ (2 : Byte).toNat ∧ (1 : Byte).toNat < 2 ∧ 8 ≤ (8 : Byte).toNat)
    ∧ (base.feedUsed 5 = false ∧ (base.feed 5).state = .off ∧ base.namesFeed 5 = false ∧ 7 ≤ 7)
    ∧ (plant.takes = true ∧ plant.feedUsed 0 = false ∧ (plant.feed 0).state ≠ .off
      ∧ FeedKind.terrestrial = (plant.feed 0).kind ∧ false = (plant.feed 0).supply ∧ 0 = (plant.feed 0).preference
      ∧ plant.users 0 = 0 ∧ (plant.feed 0).waiting = [] ∧ FeedKind.cable ≠ (plant.feed 0).kind)
    ∧ ((on6 (tuned .locked)).takes = true ∧ 0 < (on6 (tuned .locked)).users 0)
    ∧ (waits.takes = true ∧ (waits.feed 5).waiting ≠ [])
    ∧ (named.takes = true ∧ named.users 0 = 0 ∧ (named.feed 0).waiting = [] ∧ (named.feed 0).state = .off
      ∧ (∃ e ∈ named.carriers, e.2.plan.feed = 0)) := by decide +kernel

/-- A new preference on a feed that carries the candidates of a service. -/
theorem witness_FeedSetWritesRecord_preference :
    lineup.takes = true ∧ lineup.feedUsed 0 = false ∧ 7 ≤ 7 ∧ FeedKind.terrestrial = (lineup.feed 0).kind
      ∧ false = (lineup.feed 0).supply ∧ 7 ≠ (lineup.feed 0).preference
      ∧ lineup.servicesOnFeed 0 = [0x30] := by decide +kernel

theorem witness_FeedEnableSwitches :
    let off := base.setFeed 5 { satellite with state := .off }
    let attached := off.setPath 6 { tuned .locked with tap := some 5 }
    off.takes = true ∧ (off.feed 5).state = .off ∧ (off.feed 5).kind ≠ .noKind ∧ off.users 5 = 0
      ∧ off.feedUsed 5 = false
      ∧ base.takes = true ∧ (base.feed 5).state = .off ∧ (base.feed 5).kind = .noKind
      ∧ attached.takes = true ∧ (attached.feed 5).state = .off ∧ (attached.feed 5).kind ≠ .noKind
      ∧ attached.users 5 ≠ 0 ∧ attached.feedUsed 5 = true
      ∧ 6 ≤ (6 : Byte).toNat ∧ plant.takes = true ∧ (plant.feed 0).state ≠ .off := by decide +kernel

/-- A SATELLITE feed F0 with the given fault count, in the given state, for which the given paths wait. -/
def struck (n : Nat) (v : FeedState) (w : List (Fin 8)) : State :=
  (base.setFeed 0 { satellite with state := v, faultCount := n, waiting := w }).setPath 2
    { Path.cold with mode := .manual, state := .waitFeed, tuned := some 12, tuneRequester := some .probe }

theorem witness_OvercurrentFaultsFeed :
    ((struck 2 .retry []).feed 0).supply = true ∧ ((struck 2 .retry []).feed 0).state = .retry
      ∧ ((struck 2 .retry []).feed 0).faultCount < 3
      ∧ ((struck 3 .on [2]).feed 0).supply = true ∧ ((struck 3 .on [2]).feed 0).state = .on
      ∧ 3 ≤ ((struck 3 .on [2]).feed 0).faultCount ∧ ((struck 3 .on [2]).feed 0).waiting = [2]
      ∧ ((struck 3 .setting []).feed 0).state = .setting ∧ ((struck 3 .setting []).feed 0).waiting = []
      ∧ (struck 3 .setting []).engineAct = none
      ∧ (plant.feed 0).supply = false ∧ ((struck 0 .fault []).feed 0).state = .fault := by decide +kernel

/-- At a count of 3 a path that waits ends its tune NO_LOCK and is PARKED (R27). -/
theorem test_overcurrent_cuts_off :
    let t := after (.overcurrentEvent 0) (struck 3 .on [2])
    ((t.feed 0).state, (t.feed 0).faultCount, (t.path 2).state, (t.path 2).tuned) = (.off, 3, .parked, none)
      ∧ t.notices.map (fun n => n.kind) = [.feedOff, .probeResult] := by decide +kernel

theorem witness_FeedTimersEnd :
    let setting := base.setFeed 0 { satellite with state := .setting, settleEnd := some 5000 }
    let fault := base.setFeed 0 { satellite with state := .fault, retryEnd := some 5000 }
    let retry := base.setFeed 0 { satellite with state := .retry, settleEnd := some 5000 }
    let clear := base.setFeed 0 { satellite with faultCount := 1, clearEnd := some 5000 }
    reached setting.clock 5000 = true ∧ (setting.feed 0).state = .setting ∧ (setting.feed 0).settleEnd = some 5000
      ∧ (setting.feed 0).waiting = []
      ∧ reached fault.clock 5000 = true ∧ (fault.feed 0).state = .fault ∧ (fault.feed 0).retryEnd = some 5000
      ∧ reached retry.clock 5000 = true ∧ (retry.feed 0).state = .retry ∧ (retry.feed 0).settleEnd = some 5000
      ∧ (retry.feed 0).waiting = []
      ∧ reached clear.clock 5000 = true ∧ (clear.feed 0).clearEnd = some 5000 := by decide +kernel

/-- Feed F0 under the low band, its carrier 60 of the high band and its carrier 61 of the low one; the given paths wait,
P1 and P2 for carrier 60, P3 and P4 for carrier 61. -/
def queued (v : FeedState) (last : Option Stamp) (w : List (Fin 8)) : State :=
  let c (st : Setting) : Carrier := { carrier12 with plan := ⟨0, 1200000, some st, 27500, .psk8, true⟩ }
  let s := ((base.setFeed 0 { satellite with state := v, setting := some lowV, waiting := w, lastTuneStart := last
    }).setCarrier 60 (c highH)).setCarrier 61 (c lowV)
  [(1, 60), (2, 60), (3, 61), (4, 61)].foldl
    (fun s e => s.setPath e.1 { Path.cold with mode := .list, state := .waitFeed, tuned := some e.2 }) s

/-- The same with P5 attached under the low band. -/
def shared (v : FeedState) (w : List (Fin 8)) : State :=
  (queued v none w).setPath 5 { tuned .locked with tuned := some 61 }

/-- The same with all four taps taken. -/
def taken4 (w : List (Fin 8)) : State :=
  [0, 6, 7].foldl (fun s p => s.setPath p { tuned .locked with tuned := some 61 }) (shared .on w)

/-- A path that comes to a feed, one that is served and one that leaves, in each case. -/
theorem witness_FeedTimersEnd_attach :
    let need (s : State) (q : Fin 8) : Option Setting := (s.path q).tuned.bind fun c => (s.carrier c).bind (·.plan.setting)
    let alone := queued .on (some 4990) []
    let early := queued .on (some 4991) []
    ((alone.feed 0).state = .on ∧ (alone.feed 0).waiting = [] ∧ (alone.feed 0).setting = need alone 3 ∧ alone.users 0 = 0
      ∧ need alone 1 ≠ none ∧ (alone.feed 0).setting ≠ need alone 1)
    ∧ ((queued .retry none []).feed 0).state ≠ .on ∧ ((queued .retry none []).feed 0).state ≠ .off
    ∧ ((queued .on none [1]).feed 0).waiting ≠ []
    ∧ (((queued .off none []).feed 0).state = .off ∧ ((queued .off none []).carrier 60).map (·.plan.feed) = some 0)
    ∧ ((taken4 []).feed 0).setting = need (taken4 []) 3 ∧ 4 ≤ (taken4 []).users 0
    ∧ (((shared .on []).feed 0).setting ≠ need (shared .on []) 1 ∧ (shared .on []).users 0 ≠ 0)
    ∧ ((alone.feed 0).lastTuneStart = some 4990
      ∧ reached alone.clock (4990 + BitVec.ofNat 32 alone.params.tuneSpacing) = true)
    ∧ ((early.feed 0).lastTuneStart = some 4991
      ∧ reached early.clock (4991 + BitVec.ofNat 32 early.params.tuneSpacing) = false) := by decide +kernel

theorem witness_FeedTimersEnd_serve :
    let need (s : State) (q : Fin 8) : Option Setting := (s.path q).tuned.bind fun c => (s.carrier c).bind (·.plan.setting)
    let q := queued .on none
    (((q [3, 1]).feed 0).state = .on ∧ ((q [3, 1]).feed 0).waiting = 3 :: [1] ∧ ((q [3, 1]).feed 0).setting = need (q [3, 1]) 3
      ∧ (q [3, 1]).users 0 < 4)
    ∧ (((taken4 [3]).feed 0).waiting = 3 :: [] ∧ ((taken4 [3]).feed 0).setting = need (taken4 [3]) 3
      ∧ 4 ≤ (taken4 [3]).users 0)
    ∧ (((shared .on [1]).feed 0).waiting = 1 :: [] ∧ ((shared .on [1]).feed 0).setting ≠ need (shared .on [1]) 1
      ∧ (shared .on [1]).users 0 ≠ 0)
    ∧ (((q [1]).feed 0).waiting = 1 :: [] ∧ ((q [1]).feed 0).setting ≠ need (q [1]) 1 ∧ (q [1]).users 0 = 0)
    ∧ (((q [3, 1]).feed 0).waiting.head? = some 3 ∧ ((q [3, 1]).feed 0).waiting.head? ≠ some 1) := by decide +kernel

/-- A tune for a feed that is OFF leaves the path PARKED, with its carried measurement ended NO_LOCK (R18, R34). -/
theorem test_tune_off_feed :
    let t := ((queued .off none []).setPath 1 Path.cold).takeTune 1 60 .list (some (quality 8 .list))
    (t.path 1).state = .parked ∧ (t.feed 0).waiting = []
      ∧ (t.path 1).outbox.map (fun h => (h.result.carrier, h.result.outcome)) = [(60, .noLock)] := by decide +kernel

/-- A scan that attaches two of four, and one that attaches none and changes the setting. -/
theorem witness_FeedTimersEnd_scan :
    let s := queued .on none [1, 3, 2, 4]
    let n := queued .on none [2, 1]
    ((s.feed 0).state = .on ∧ (s.feed 0).waiting.Nodup ∧ (∀ q ∈ (s.feed 0).waiting, (s.path q).tap = none)
      ∧ s.users 0 = 0)
    ∧ ((n.feed 0).state = .on ∧ (n.feed 0).waiting.Nodup ∧ (∀ q ∈ (n.feed 0).waiting, (n.path q).tap = none)
      ∧ n.users 0 = 0 ∧ (n.feed 0).waiting = 2 :: [1])
    ∧ ((s.scan 0).path 3).tap = some 0 ∧ ((s.scan 0).path 4).tap = some 0 ∧ ((s.scan 0).feed 0).waiting = [1, 2]
    ∧ ((n.scan 0).feed 0).setting = some highH := by decide +kernel

/-- The lock timeout at the bounds of its range, 50 to 1000 ms, and past them. -/
theorem witness_ParamSetWritesSet :
    let v (lo hi : Byte) : Nat := lo.toNat + 256 * hi.toNat
    let busy := plant.setPath 6 (tuned .locked)
    base.takes = true ∧ v 49 0 < 50 ∧ 50 ≤ v 50 0 ∧ v 0xE8 3 ≤ 1000 ∧ 1000 < v 0xE9 3
      ∧ base.survey = .stopped ∧ (∀ p, (base.path p).state = .parked)
      ∧ { base with survey := .running }.takes = true ∧ { base with survey := .running }.survey ≠ .stopped
      ∧ busy.takes = true ∧ (∃ p, (busy.path p).state ≠ .parked) := by decide +kernel

/-- A level window and a prescaler at and past their bounds, and a body of two items, the second refused. -/
theorem witness_ParamSetWritesSet_items :
    let l : List ParamItem := [.one 4 50, .two 27 239 240]
    let bad : ParamItem := .two 29 240 240
    let v (lo hi : Byte) : Nat := lo.toNat + 256 * hi.toNat
    v 255 0 ≤ 255 ∧ 255 < v 0 1 ∧ 29 < (30 : Byte).toNat ∧ v 240 0 ≤ 240 ∧ 240 < v 241 0 ∧ v 239 0 < v 240 0
      ∧ l ≠ [] ∧ (∀ i ∈ l, i.carried = true ∧ i.fault = none ∧ i.number ≠ 14) ∧ (∃ i ∈ l, i.timing = true)
      ∧ (l.flatMap ParamItem.bytes).length ≤ 1024
      ∧ bad.carried = true ∧ bad.fault = some 2 ∧ 1 + (l.map ParamItem.fields).sum + 2 ≤ 255
      ∧ ((l ++ [bad]).flatMap ParamItem.bytes).length ≤ 1024 := by decide +kernel

/-- A new stale limit of 10 s makes a carrier scored 11 s ago STALE and re-times one scored 9 s ago (R102). -/
theorem test_paramSet_retimes :
    let scored (t : Stamp) : Carrier :=
      { carrier12 with reception := { (fresh carrier12 640).reception with scoredAt := some t } }
    let s : State := (plant.setCarrier 12 (scored 9000)).setCarrier 13 (scored 11000)
    let t := after (.paramSet 1 [14, 10, 0]) { s with clock := 20000 }
    s.tablesOk = true
      ∧ (t.carrier 12).map (fun x => (x.reception.state, x.reception.staleEnd)) = some (.stale, none)
      ∧ (t.carrier 13).map (fun x => (x.reception.state, x.reception.staleEnd)) = some (.fresh, some 21000) := by
  decide +kernel

/-- A body of a stale limit among others, in a still module and in one whose path P6 is LOCKED. -/
theorem witness_ParamSetWritesSet_stale :
    let l : List ParamItem := [.one 4 50, .one 14 10, .one 11 0]
    let busy := plant.setPath 6 (tuned .locked)
    l ≠ [] ∧ (∀ i ∈ l, i.carried = true ∧ i.fault = none) ∧ (∃ i ∈ l, i.number = 14) ∧ (∃ i ∈ l, i.timing = true)
      ∧ (l.flatMap ParamItem.bytes).length ≤ 1024 ∧ plant.survey = .stopped ∧ (∀ p, (plant.path p).state = .parked)
      ∧ busy.takes = true ∧ ¬ (∀ p, (busy.path p).state = .parked)
      ∧ (answer (after (.paramSet 1 (l.flatMap ParamItem.bytes)) busy)) = some (0x90, .wrongState) := by decide +kernel

/-- The ageing of a re-timed carrier is reported: its slot, on the air with it, asks an URGENT recheck (R102, R139). -/
theorem test_paramSet_reports_aged :
    let scored : Carrier := { carrier12 with reception := { (fresh carrier12 640).reception with scoredAt := some 9000 } }
    let t := after (.paramSet 1 [14, 10, 0]) { onAir.setCarrier 12 scored with clock := 20000 }
    (t.carrier 12).map (·.reception.state) = some .stale
      ∧ t.recheckQueue.map (fun e => (e.carrier, e.urgency, e.reason)) = [(12, .urgent, .activeStale)]
      ∧ (t.slot 7).state = .onAir := by decide +kernel

/-! ## Witnesses: Plan Memory, lists, rechecks and the tick -/

theorem witness_ListWriteWritesRun :
    let run (rest : Nat) : List (Option SweepEntry) := [some (entry 12 rest), none]
    let running : State := { plant with survey := .running }
    plant.takes = true ∧ plant.runOk 0 (run 0) = true ∧ plant.runOk 510 (run 4095) = true ∧ plant.survey = .stopped
      ∧ running.takes = true ∧ running.runOk 510 (run 4095) = true ∧ running.survey ≠ .stopped := by decide +kernel

theorem witness_ListDefineReplacesList :
    base.takes = true ∧ 1 ≤ 1 ∧ 511 + 1 ≤ 512 ∧ 511 ≤ 511 ∧ 255 ≤ 255 ∧ 0 + 512 ≤ 512 ∧ base.survey = .stopped
      ∧ { base with survey := .paused }.takes = true ∧ { base with survey := .paused }.survey ≠ .stopped := by
  decide +kernel

/-- Result code and content of the last reply owed after a command. -/
def refusal (c : Instr) (s : State) : Option (ResultCode × List Byte) :=
  (after c s).replies.getLast?.map fun r => (r.code, r.content)

/-- LIST_WRITE of one record at entry 511, each of its fields one past its range in turn, and of two blanks past entry
511. -/
theorem test_listWrite_refusals :
    let one (k w d e r1 t : Byte) : Instr := .listWrite 1 [0xFF, 1, 1, 0, 1, 12, k, w, d, e, 0, r1, t]
    [one 3 4 3 1 0x0F 1, one 2 5 3 1 0x0F 1, one 2 8 4 1 0x0F 1, one 2 4 3 2 0x0F 1, one 2 4 3 1 0x10 1, one 2 4 3 1 0x0F 2].map
        (fun c => refusal c plant)
      = [4, 5, 6, 7, 8, 9].map (fun n => some (.outOfRange, [n, 0xFF, 1]))
    ∧ refusal (one 2 4 3 1 0x0F 1) plant = some (.ok, [])
    ∧ refusal (.listWrite 1 [0, 0, 2, 0, 0, 1, 13, 0, 4, 0, 0, 0, 0, 0]) plant = some (.notFound, [1, 0])
    ∧ [Instr.listWrite 1 [0, 2, 1, 0, 0], .listWrite 1 [0xFF, 1, 2, 0, 0, 0], .listWrite 1 [0, 0, 0, 0]].map
        (fun c => (refusal c plant).map fun x => (x.1, x.2.length, x.2.head?))
      = [some (.outOfRange, 3, some 1), some (.outOfRange, 3, some 2), some (.outOfRange, 3, some 2)] := by decide +kernel

theorem witness_ListWriteWritesRun_refusals :
    let l : List (Option SweepEntry) := [none, some (entry 12 0)]
    plant.takes = true ∧ rawEntries 1 [0] ≠ none ∧ rawEntries 0 [] ≠ none ∧ [(0 : Byte)].length ≤ 1020
      ∧ 511 < 512 ∧ 512 < 511 + 2 ∧ (∀ y ∈ l, ∀ x, y = some x → x.fits = true) ∧ 509 + (l.length + 1 + 0) ≤ 512
      ∧ (runBody 510 [none, some (entry 13 0)]).length ≤ 1024 ∧ 510 + 2 ≤ 512 ∧ plant.carrier (entry 13 0).carrier = none
      ∧ (∀ y ∈ [none, some (entry 13 0)], ∀ x, y = some x → x.fits = true) := by decide +kernel

/-- Each field of a request one past its range, in the order in which the fields are tried, and OUT_OF_RANGE on it. -/
theorem test_range_refusals :
    let lists : List (Instr × Byte) :=
      [(.listDefine 1 [8, 0, 0, 1, 0, 1, 1], 1), (.listDefine 1 [7, 0, 2, 1, 0, 1, 1], 2),
        (.listDefine 1 [7, 0xFF, 1, 2, 0, 1, 1], 3), (.listDefine 1 [7, 0, 0, 0, 0, 1, 1], 3),
        (.listDefine 1 [7, 0xFF, 1, 1, 0, 255, 2], 5), (.listSeek 1 [8, 0, 0], 1), (.listSeek 1 [7, 0, 2], 2),
        (.recheck 1 [12, 1, 0], 2), (.recheck 1 [12, 3, 0], 2), (.recheck 1 [12, 2, 2], 3), (.feedEnable 1 [5, 2], 2)]
    let paths : List (Instr × Byte) :=
      [(.pathMode 1 [8, 0], 1), (.pathMode 1 [7, 3], 2), (.probeTune 1 [8, 12], 1),
        (.probeMeasure 1 [8, 0, 4, 3, 1], 1), (.probeMeasure 1 [7, 3, 4, 3, 1], 2), (.probeMeasure 1 [7, 2, 6, 3, 1], 3),
        (.probeMeasure 1 [7, 2, 8, 4, 1], 4), (.probeMeasure 1 [7, 2, 8, 3, 2], 5), (.probeRelease 1 [8], 1)]
    let slots : List (Instr × Byte) :=
      [(.aliasBind 1 [0, 0, 0, 0, 1, 0], 2), (.aliasBind 1 [0, 0, 1, 0, 0, 0], 3), (.aliasBind 1 [0, 0, 1, 0, 0, 0x80], 3),
        (.aliasUnbind 1 [0, 0, 0, 0], 2), (.slotSet 1 [64, 0x30, 0, 3, 15, 1], 1), (.slotSet 1 [63, 0, 0, 3, 15, 1], 2),
        (.slotSet 1 [63, 0x80, 0x81, 3, 15, 1], 2), (.slotSet 1 [63, 0x30, 0, 4, 15, 1], 3),
        (.slotSet 1 [63, 0x30, 0, 3, 16, 1], 4), (.slotSet 1 [63, 0x30, 0, 3, 15, 2], 5), (.slotClear 1 [64], 1),
        (.slotPin 1 [64, 12, 1, 0], 1), (.slotPin 1 [63, 12, 0, 0], 3), (.slotUnpin 1 [64], 1), (.slotResume 1 [64], 1)]
    (lists ++ paths ++ slots).all (fun x => decide (refusal x.1 lineup = some (.outOfRange, [x.2]))) = true
      ∧ refusal (.slotSet 1 [63, 0x30, 0, 3, 15, 1]) lineup = some (.ok, []) := by decide +kernel

/-- A path that is not MANUAL, an unused carrier index, and an unused one on a path that is not MANUAL (R35, R52). -/
theorem test_probe_refusals :
    plant.takes = true ∧ plant.carrier 13 = none ∧ (plant.path 7).mode ≠ .manual
      ∧ refusal (.probeTune 1 [7, 13]) plant = some (.notFound, [])
      ∧ refusal (.probeTune 1 [7, 12]) plant = some (.wrongState, [])
      ∧ refusal (.probeMeasure 1 [7, 0, 8, 3, 1]) plant = some (.wrongState, []) := by decide +kernel

/-- List 4 of entries 100 to 102: positions 99 and 103 are not its own, 100 and 102 are. -/
theorem witness_ListSeekMovesPosition :
    let on4 (l : SweepList) : State := base.setSweep 4 l
    let driven : State := { (on4 (list4 .done 103)).setPath 4 { Path.cold with mode := .list } with survey := .running }
    base.takes = true ∧ (base.sweep 4).descriptor = none ∧ 511 ≤ 511
      ∧ (on4 (list4 .idle 100)).takes = true ∧ ((on4 (list4 .idle 100)).sweep 4).descriptor = some ⟨100, 3, 2, true⟩
      ∧ ¬ (100 ≤ 99 ∧ 99 < 100 + 3) ∧ ¬ (100 ≤ 103 ∧ 103 < 100 + 3) ∧ 100 ≤ 102 ∧ 102 < 100 + 3
      ∧ ((on4 (list4 .idle 100)).sweep 4).state = .idle ∧ ((on4 (list4 .resting 100)).sweep 4).state = .resting
      ∧ ((on4 (list4 .running 100)).sweep 4).state = .running
      ∧ ((on4 (list4 .running 100)).sweep 4).stage = .notBegun
      ∧ ((on4 { list4 .running 100 with stage := .begun }).sweep 4).state = .running
      ∧ ((on4 { list4 .running 100 with stage := .begun }).sweep 4).stage ≠ .notBegun
      ∧ ((on4 { list4 .suspended 100 with resume := some .resting }).sweep 4).state = .suspended
      ∧ ((on4 { list4 .suspended 100 with resume := some .resting }).sweep 4).resume = some .resting
      ∧ ((on4 { list4 .suspended 100 with resume := some .running }).sweep 4).state = .suspended
      ∧ ((on4 { list4 .suspended 100 with resume := some .running }).sweep 4).resume ≠ some .resting
      ∧ driven.takes = true ∧ (driven.sweep 4).descriptor = some ⟨100, 3, 2, true⟩ ∧ (driven.sweep 4).state = .done
      ∧ driven.survey = .running ∧ driven.driven 4 = true
      ∧ ((on4 (list4 .done 103)).sweep 4).state = .done ∧ (on4 (list4 .done 103)).survey ≠ .running := by decide +kernel

/-- The Recheck Queue of carrier 12 alone, and one that is full of URGENT entries. -/
def queueOf (u : Urgency) : State := { plant with recheckQueue := [⟨12, .quality, u, .challenger, 4000⟩] }
def urgentQueue : State :=
  { plant with recheckQueue := (List.range 24).map fun c => ⟨100 + c, .quality, .urgent, .activeMiss, 4000⟩ }

theorem witness_RecheckTakesItsPlace :
    let off := plant.setCarrier 12 (disabled carrier12)
    let room : State := { fullQueue with recheckQueue := fullQueue.recheckQueue.take 23 }
    let lent := plant.setSweep 4
      { list4 .resting 100 with
        loan := some ⟨⟨12, .quality, .urgent, .probe, 4000⟩, ⟨.quality, 4, 1, true, .recheck⟩, true⟩ }
    let same (y : Recheck) : Bool := decide (y.carrier = 12 ∧ y.cls = .quality)
    plant.takes = true ∧ MeasClass.quality ≠ .level ∧ plant.carrier 13 = none
      ∧ off.takes = true ∧ off.carrier 12 = some (disabled carrier12) ∧ (disabled carrier12).plan.enabled = false
      ∧ carrier12.plan.enabled = true
      ∧ lent.takes = true ∧ lent.carrier 12 = some carrier12 ∧ lent.recheckOnPath 12 .quality = true
      ∧ (∀ u ∈ [Urgency.urgent, .routine], (queueOf u).takes = true ∧ (queueOf u).carrier 12 = some carrier12
        ∧ (queueOf u).recheckOnPath 12 .quality = false
        ∧ (queueOf u).recheckQueue.find? same = some ⟨12, .quality, u, .challenger, 4000⟩)
      ∧ room.takes = true ∧ room.carrier 12 = some carrier12 ∧ room.recheckOnPath 12 .quality = false
      ∧ room.recheckQueue.find? same = none ∧ room.recheckQueue.length < 24
      ∧ fullQueue.takes = true ∧ fullQueue.carrier 12 = some carrier12 ∧ fullQueue.recheckOnPath 12 .quality = false
      ∧ fullQueue.recheckQueue.find? same = none ∧ 24 ≤ fullQueue.recheckQueue.length
      ∧ fullQueue.recheckQueue.getLast? = some ⟨122, .quality, .routine, .challenger, 4000⟩
      ∧ urgentQueue.takes = true ∧ urgentQueue.carrier 12 = some carrier12
      ∧ urgentQueue.recheckOnPath 12 .quality = false ∧ urgentQueue.recheckQueue.find? same = none
      ∧ 24 ≤ urgentQueue.recheckQueue.length ∧ (∀ y ∈ urgentQueue.recheckQueue, y.urgency = .urgent) := by
  decide +kernel

/-- A full queue drops a block's ROUTINE request, and for an URGENT one its last entry; each with RECHECK_DROPPED (R85). -/
theorem test_block_recheck_dropped :
    let drops (u : Urgency) : List (NoticeKind × Nat × List Byte) :=
      (fullQueue.requestRecheck 12 .quality u .challenger).notices.map fun n => (n.kind, n.object, n.detail)
    drops .routine = [(.recheckDropped, 12, [0, 1, 2])] ∧ drops .urgent = [(.recheckDropped, 122, [0, 1, 2])] := by
  decide +kernel

/-- A RUNNING survey with a recheck of carrier 12 queued, and P4 in LIST mode with its list resting. -/
def offers (x : Path) (l : SweepList) : State :=
  ({ queueOf .urgent with survey := .running }.setPath 4 { x with mode := .list }).setSweep 4 l

/-- A free path in each state in which an entry is handed to it, and paths that are not free. -/
theorem witness_RecheckTakesItsPlace_lends :
    let e : Recheck := ⟨12, .quality, .urgent, .challenger, 4000⟩
    let r := list4 .resting 100
    let lent := list4 .resting 100
    let loan : Loan := ⟨e, ⟨.quality, 4, 1, true, .recheck⟩, true⟩
    (∀ x ∈ [Path.cold, { Path.cold with state := .recovering }, tuned .locked, { tuned .locked with tuned := some 20 }
      , tuned .releasing],
      (offers x r).recheckQueue = e :: [] ∧ (∀ q, (offers x r).entryDue q = false) ∧ (∀ q, (offers x r).loanDue q = false)
        ∧ (offers x r).pathFor e = some 4 ∧ (offers x r).free 4 = true)
    ∧ ((offers (tuned .locked) r).path 4).tuned = some e.carrier
    ∧ ((offers { tuned .locked with tuned := some 20 } r).path 4).tuned ≠ some e.carrier
    ∧ (offers Path.cold (list4 .done 100)).free 4 = true ∧ (offers Path.cold (list4 .running 100)).free 4 = true
    ∧ (offers Path.cold { r with direct := true }).free 4 = false
    ∧ (offers Path.cold { list4 .running 100 with stage := .inFlight }).free 4 = false
    ∧ (noLock 12).requester = .list ∧ { noLock 12 with requester := .recheck }.requester = .recheck
    ∧ ((offers Path.cold { lent with loan := some loan }).sweep 4).loan ≠ none := by decide +kernel

/-- P4 in LIST mode, lent for a recheck of carrier `c` whose TUNE is not issued, in the given path state. -/
def putOff (c : Nat) (state : PathState) : State :=
  ({ plant with survey := .running }.setPath 4 { Path.cold with mode := .list, state := state }).setSweep 4
    { list4 .resting 100 with
      loan := some ⟨⟨c, .quality, .urgent, .probe, 4000⟩, ⟨.quality, 4, 1, true, .recheck⟩, false⟩ }

theorem witness_RecheckTakesItsPlace_put_off :
    (∀ c ∈ [12, 13], ∀ x ∈ [PathState.parked, .recovering],
      (∃ k, ((putOff c x).sweep 4).loan = some k ∧ k.issued = false) ∧ ((putOff c x).path 4).mode = .list
        ∧ ((putOff c x).path 4).pendingMode = none ∧ ((putOff c x).path 4).state = x
        ∧ ((putOff c x).path 4).heldTune = none ∧ (∀ q, (putOff c x).entryDue q = false)
        ∧ ∀ q, q < 4 → ((putOff c x).sweep q).loan = none)
    ∧ (putOff 12 .parked).carrier 12 ≠ none ∧ (putOff 13 .parked).carrier 13 = none := by decide +kernel

/-- A TUNE put off is issued when the path reports PARKED; on an index unused by then the loan ends (R76, R90). -/
theorem test_put_off_tune :
    let t := (putOff 12 .parked).runEngine
    ((t.path 4).state, (t.path 4).tuneRequester) = (.settling, some .recheck)
      ∧ (t.sweep 4).loan.map (·.issued) = some true
      ∧ ((putOff 13 .parked).runEngine.sweep 4).loan = none
      ∧ ((putOff 12 .recovering).runEngine.path 4).heldTune.map (fun h => (h.carrier, h.requester)) = some (12, .recheck)
      ∧ ((putOff 12 .releasing).runEngine.sweep 4).loan.map (·.issued) = some false := by decide +kernel

/-- A list whose rest is over lends its path once in a gap: after the loan it is not free (R88, R91). -/
theorem test_one_loan_per_gap :
    let loan : Loan := ⟨⟨20, .quality, .urgent, .probe, 4000⟩, ⟨.quality, 4, 1, true, .recheck⟩, true⟩
    let s := offers Path.cold { list4 .resting 100 with loan := some loan }
    ((s.endLoan 4).sweep 4).loan = none ∧ (s.endLoan 4).free 4 = false
      ∧ ((offers Path.cold { list4 .resting 100 with rest := 1, loan := some loan }).endLoan 4).free 4 = true := by
  decide +kernel

theorem witness_TickBoundaryCounts :
    reached { base with clock := 5100 }.clock base.tickEnd = true
      ∧ reached { base with clock := 5099 }.clock base.tickEnd = false := by decide

theorem witness_RestEndAdvances :
    let on4 (l : SweepList) : State := base.setSweep 4 l
    let l := list4 .resting 102
    ((on4 l).sweep 4).state = .resting ∧ ((on4 l).sweep 4).rest = 0
      ∧ ((on4 l).sweep 4).descriptor = some ⟨100, 3, 2, true⟩
      ∧ (list4 .resting 101).seek.getD ((list4 .resting 101).position + 1) ≠ 100 + 3
      ∧ l.seek.getD (l.position + 1) = 100 + 3 ∧ l.allSkipped = false ∧ l.pass ≠ 2
      ∧ { l with allSkipped := true }.allSkipped = true ∧ { l with pass := 2 }.pass = 2 ∧ l.loan = none := by
  decide +kernel

/-- List 4 on entry 100 of the given kind, its path P4 as given. -/
def atEntry (e : Option SweepEntry) (c : Carrier) (x : Path) : State :=
  let m : Store SweepEntry := match e with
    | some e => [(100, e)]
    | none => []
  ({ (plant.setCarrier 12 c) with planMemory := m, survey := .running }.setPath 4 { x with mode := .list }).setSweep 4
    { list4 .running 100 with descriptor := some ⟨100, 3, 2, false⟩ }

/-- An entry that is blank, on an unused carrier, on a disabled one, and begun on a path in each state. -/
theorem witness_RestEndAdvances_entries :
    let e := entry 12 3
    let s (x : Path) : State := atEntry (some e) carrier12 x
    let about (v : State) : Prop := (v.sweep 4).state = .running ∧ (v.sweep 4).stage = .notBegun
      ∧ (v.sweep 4).loan = none ∧ (v.path 4).mode = .list ∧ (v.path 4).pendingMode = none
    let flying := (s Path.cold).setSweep 4 { list4 .running 100 with stage := .inFlight, current := some ⟨100, e⟩ }
    (∀ x ∈ [Path.cold, { Path.cold with state := .recovering }, tuned .locked, { tuned .locked with tuned := some 20 }
      , tuned .releasing],
      about (s x) ∧ (∀ m, (s x).entryDue m = false) ∧ (∀ m, (s x).loanDue m = false)
        ∧ (s x).recheckQueue.head? = none ∧ Store.find (s x).planMemory 100 = some e ∧ (s x).carrier 12 = some carrier12)
    ∧ (∀ m, m < 4 → ((s Path.cold).sweep m).state ≠ .running)
    ∧ Store.find (atEntry none carrier12 Path.cold).planMemory 100 = none
    ∧ (atEntry (some (entry 13 3)) carrier12 Path.cold).carrier 13 = none
    ∧ (atEntry (some e) (disabled carrier12) Path.cold).carrier 12 = some (disabled carrier12)
    ∧ base.engineAct = none ∧ (s Path.cold).engineAct ≠ none
    ∧ (flying.sweep 4).stage = .inFlight ∧ (flying.sweep 4).current = some ⟨100, e⟩
    ∧ { e with note := true }.note = true := by decide +kernel

/-- List 4 with entry 100 on carrier `c` begun, its TUNE put off, and P4 in the given state. -/
def begunOn (c : Nat) (state : PathState) : State :=
  ({ plant with survey := .running }.setPath 4 { Path.cold with mode := .list, state := state }).setSweep 4
    { list4 .running 100 with stage := .begun, current := some ⟨100, entry c 3⟩ }

/-- An entry put off whose TUNE is due, on a used and an unused index, and a list that is DONE with a loan on its path. -/
theorem witness_RestEndAdvances_put_off :
    let loan : Loan := ⟨⟨12, .quality, .urgent, .probe, 4000⟩, ⟨.quality, 4, 1, true, .recheck⟩, true⟩
    let l : SweepList := { list4 .resting 102 with pass := 2, loan := some loan }
    (∀ c ∈ [12, 13], ∀ x ∈ [PathState.parked, .recovering],
      ((begunOn c x).sweep 4).state = .running ∧ ((begunOn c x).sweep 4).stage = .begun
        ∧ ((begunOn c x).sweep 4).current = some ⟨100, entry c 3⟩ ∧ ((begunOn c x).path 4).mode = .list
        ∧ ((begunOn c x).path 4).pendingMode = none ∧ ((begunOn c x).path 4).state = x
        ∧ ((begunOn c x).path 4).heldTune = none ∧ ∀ m, m < 4 → ((begunOn c x).sweep m).stage ≠ .begun)
    ∧ (begunOn 12 .parked).carrier 12 ≠ none ∧ (begunOn 13 .parked).carrier 13 = none
    ∧ l.state = .resting ∧ l.rest = 0 ∧ l.seek.getD (l.position + 1) = 100 + 3 ∧ l.pass = 2 ∧ l.loan ≠ none := by
  decide +kernel

/-- A TUNE put off is issued when the path reports PARKED or RECOVERING; an index unused by then is skipped with the entry's
own rest (R76, R77). -/
theorem test_put_off_entry :
    let t := (begunOn 12 .parked).runEngine
    ((t.path 4).state, (t.path 4).tuneRequester, (t.sweep 4).stage) = (.settling, some .list, .inFlight)
      ∧ ((begunOn 12 .recovering).runEngine.path 4).heldTune.map (·.requester) = some .list
      ∧ (((begunOn 13 .parked).runEngine.sweep 4).state, ((begunOn 13 .parked).runEngine.sweep 4).rest) = (.resting, 3)
      ∧ ((begunOn 12 .releasing).runEngine.sweep 4).stage = .begun := by decide +kernel

/-- The last pass ends while a recheck holds the path: the list is DONE, and its path takes no RELEASE (R79). -/
theorem test_done_with_loan :
    let loan : Loan := ⟨⟨12, .quality, .urgent, .probe, 4000⟩, ⟨.quality, 4, 1, true, .recheck⟩, true⟩
    let s : State := ({ plant with survey := .running }.setPath 4 { tuned .locked with mode := .list }).setSweep 4
      { list4 .resting 102 with pass := 2, loan := some loan }
    let t := after (.restEnd 4) s
    (t.sweep 4).state = .done ∧ (t.sweep 4).loan = some loan ∧ t.path 4 = s.path 4
      ∧ ((after (.restEnd 4) (s.setSweep 4 { list4 .resting 102 with pass := 2 })).path 4).state = .recovering := by
  decide +kernel

/-! ## Witnesses: receive paths -/

theorem witness_PathModeChanges :
    let pendingOff := on6 { tuned .releasing with pendingMode := some .off }
    base.takes = true ∧ (base.path 6).pendingMode = none ∧ (base.path 6).mode = .off ∧ (base.path 6).mode ≠ .list
      ∧ (base.path 6).state = .parked
      ∧ pendingOff.takes = true ∧ (pendingOff.path 6).pendingMode ≠ none
      ∧ (on6 (tuned .locked)).takes = true ∧ ((on6 (tuned .locked)).path 6).pendingMode = none
      ∧ ((on6 (tuned .locked)).path 6).mode ≠ .list ∧ ((on6 (tuned .locked)).path 6).state ≠ .parked := by decide +kernel

/-- A path that leaves or joins its list while the survey is RUNNING, in each list state (R75). -/
theorem test_pathMode_lists :
    let s (mode : PathMode) (l : SweepList) : State :=
      ({ base with survey := .running }.setPath 4 { Path.cold with mode := mode }).setSweep 4 l
    let left (l : SweepList) : SweepList := (after (.pathMode 1 [4, 2]) (s .list l)).sweep 4
    let joined (l : SweepList) : SweepList := (after (.pathMode 1 [4, 1]) (s .off l)).sweep 4
    let loan (issued : Bool) : Loan :=
      ⟨⟨12, .quality, .urgent, .probe, 4000⟩, ⟨.quality, 4, 1, true, .recheck⟩, issued⟩
    let begun : SweepList := { list4 .running 100 with stage := .begun, current := some ⟨100, entry 12 0⟩ }
    left begun = { list4 .suspended 100 with resume := some .running }
      ∧ ((left { list4 .resting 100 with rest := 3 }).state, (left { list4 .resting 100 with rest := 3 }).resume)
        = (.suspended, some .resting)
      ∧ (left { list4 .resting 100 with rest := 3, loan := some (loan false) }).loan = none
      ∧ (left { list4 .resting 100 with rest := 3, loan := some (loan true) }).loan = some (loan true)
      ∧ left (list4 .done 103) = list4 .done 103
      ∧ joined { list4 .suspended 100 with resume := some .resting, rest := 3 }
        = { list4 .resting 100 with rest := 3, restBegan := some 5000 }
      ∧ joined (list4 .idle 100) = list4 .idle 100 := by decide +kernel

/-- Carrier 12 on feed F0, whose last tune started 10 ms or 9 ms ago. -/
theorem witness_ProbeTuneStartsTune :
    let manual : Path := { Path.cold with mode := .manual }
    let ago (l : Stamp) : State := (on6 manual).setFeed 0 { terrestrial with lastTuneStart := some l }
    let off : State := (on6 manual).setFeed 0 { terrestrial with state := .off }
    let recovering := on6 { manual with state := .recovering, recoveryEnd := some 5020 }
    plant.takes = true ∧ plant.carrier 12 = some carrier12 ∧ (plant.path 6).mode ≠ .manual
      ∧ ((on6 (tuned .locked)).path 6).mode = .manual ∧ ((on6 (tuned .locked)).path 6).pendingMode = none
      ∧ ((on6 (tuned .locked)).path 6).state ≠ .parked ∧ ((on6 (tuned .locked)).path 6).state ≠ .recovering
      ∧ (recovering.path 6).state = .recovering ∧ (recovering.path 6).heldTune = none
      ∧ (off.path 6).state = .parked ∧ (off.feed 0).state ≠ .on
      ∧ ((ago 4990).path 6).state = .parked ∧ ((ago 4990).feed 0).state = .on ∧ ((ago 4990).feed 0).waiting = []
      ∧ (ago 4990).users 0 < 4 ∧ carrier12.plan.setting = none
      ∧ reached (ago 4990).clock (4990 + BitVec.ofNat 32 (ago 4990).params.tuneSpacing) = true
      ∧ ((ago 4991).feed 0).lastTuneStart = some 4991
      ∧ reached (ago 4991).clock (4991 + BitVec.ofNat 32 (ago 4991).params.tuneSpacing) = false := by decide +kernel

/-- P6, MANUAL and PARKED, and carriers 60 and 61 of a feed that changes, refuses or takes it (R19, R20). -/
theorem witness_ProbeTuneStartsTune_setting :
    let manual : Path := { Path.cold with mode := .manual }
    let on (s : State) : State := s.setPath 6 manual
    let alone := on (queued .on none [])
    let waited := on (queued .on none [1])
    let other := on (shared .on [])
    let full : State := (([0, 1, 2, 5] : List (Fin 8)).foldl (fun s p => s.setPath p (tuned .locked)) plant).setPath 6 manual
    (alone.takes = true ∧ (alone.carrier 60).map (·.plan.setting) = some (some highH) ∧ (alone.path 6).mode = .manual
      ∧ (alone.path 6).pendingMode = none ∧ (alone.path 6).state = .parked ∧ (alone.feed 0).state = .on
      ∧ (alone.feed 0).waiting = [] ∧ alone.users 0 = 0 ∧ (alone.feed 0).setting ≠ some highH
      ∧ (alone.carrier 61).map (·.plan.setting) = some (alone.feed 0).setting)
    ∧ (waited.takes = true ∧ (waited.path 6).state = .parked ∧ (waited.feed 0).waiting ≠ [])
    ∧ (other.takes = true ∧ (other.path 6).state = .parked ∧ other.users 0 ≠ 0 ∧ (other.feed 0).setting ≠ some highH)
    ∧ (full.takes = true ∧ full.carrier 12 = some carrier12 ∧ (full.path 6).state = .parked ∧ 4 ≤ full.users 0) := by
  decide +kernel

theorem witness_ProbeMeasureTaken :
    let manual : Path := { Path.cold with mode := .manual }
    let m := quality 8 .probe
    let ending := window { m with release := true } 3
    (on6 manual).takes = true ∧ (m.window = 4 ∨ m.window = 8) ∧ m.leadIn ≤ 3 ∧ m.requester = .probe
      ∧ ((on6 manual).path 6).mode = .manual ∧ ((on6 manual).path 6).pendingMode = none
      ∧ ((on6 manual).path 6).state = .parked
      ∧ ((on6 (tuned .settling)).path 6).state = .settling ∧ ((on6 (tuned .settling)).path 6).posted = none
      ∧ ((on6 { tuned .settling with posted := some m }).path 6).posted ≠ none
      ∧ ((on6 (tuned .locked)).path 6).state = .locked
      ∧ ((on6 (measuring (window m 3))).path 6).state = .measuring
      ∧ ((on6 (measuring (window m 3))).path 6).window = some (window m 3) ∧ (window m 3).meas.release = false
      ∧ ((on6 (measuring (window m 3))).path 6).held = none
      ∧ ((on6 { measuring (window m 3) with held := some m }).path 6).held ≠ none
      ∧ ((on6 (measuring ending)).path 6).window = some ending ∧ ending.meas.release = true := by decide +kernel

/-- A path whose earliest detach is 1 ms ahead. -/
def early (state : PathState) : Path := { tuned state with earliestDetach := some 5001 }

theorem witness_ProbeReleaseTaken :
    let recovering := on6 { Path.cold with mode := .manual, state := .recovering, recoveryEnd := some 5020 }
    (on6 (early .locked)).takes = true ∧ (plant.path 6).mode ≠ .manual
      ∧ ((on6 (tuned .releasing)).path 6).mode = .manual ∧ ((on6 (tuned .releasing)).path 6).pendingMode = none
      ∧ ((on6 (tuned .releasing)).path 6).state = .releasing
      ∧ (recovering.path 6).state = .recovering ∧ (recovering.path 6).heldTune = none
      ∧ ((on6 (early .locked)).path 6).state = .locked
      ∧ ((on6 (early .locked)).path 6).earliestDetach = some 5001 ∧ reached (on6 (early .locked)).clock 5001 = false := by
  decide +kernel

/-- RELEASE before a block has been counted and in a window, in each state and with what it ends. -/
theorem witness_ProbeReleaseTaken_states :
    let m := quality 8 .probe
    let held := on6
      { Path.cold with mode := .manual, state := .recovering, heldTune := some ⟨12, .probe, some m⟩, recoveryEnd := some 5020 }
    let due := on6 { tuned .waitFeed with tuneDue := some 5010, posted := some m }
    let waits (w : List (Fin 8)) (v : FeedState) : State :=
      (on6 { tuned .waitFeed with tap := none, posted := some m }).setFeed 0 { terrestrial with state := v, waiting := w }
    let late := on6 { tuned .locked with outbox := [⟨noLock 12, true⟩] }
    let run := on6 { measuring (window m 3) with held := some (quality 4 .probe) }
    (held.takes = true ∧ (held.path 6).mode = .manual ∧ (held.path 6).pendingMode = none
      ∧ (held.path 6).state = .recovering ∧ (held.path 6).heldTune ≠ none)
    ∧ (due.takes = true ∧ (due.path 6).state = .waitFeed ∧ (due.path 6).tap = some 0)
    ∧ ((waits [6, 1] .retry).takes = true ∧ ((waits [6, 1] .retry).path 6).state = .waitFeed
      ∧ ((waits [6, 1] .retry).path 6).tap = none ∧ (waits [6, 1] .retry).waitingOn 6 = some 0
      ∧ ((waits [6, 1] .retry).feed 0).state ≠ .on ∧ ((waits [1, 6] .on).feed 0).waiting.head? ≠ some 6
      ∧ (waits [1, 6] .on).waitingOn 6 = some 0
      ∧ ((waits [1, 6] .on).hunts.leaveWaiting 6 0).path 6 = (waits [1, 6] .on).path 6)
    ∧ ((on6 { tuned .settling with posted := some m }).path 6).state = .settling
    ∧ ((on6 (tuned .locking)).path 6).state = .locking
    ∧ (late.takes = true ∧ (late.path 6).state = .locked ∧ (late.path 6).outbox ≠ [])
    ∧ (((on6 (tuned .locked)).path 6).outbox = [] ∧ ((on6 (tuned .locked)).path 6).earliestDetach = some 4900
      ∧ reached (on6 (tuned .locked)).clock 4900 = true ∧ ((on6 (tuned .locked)).path 6).tap = some 0)
    ∧ (run.takes = true ∧ (run.path 6).state = .measuring ∧ (run.path 6).tuned = some 12
      ∧ (run.path 6).window = some (window m 3)) := by decide +kernel

/-- A RELEASE in MEASURING ends the window and the held measure ABORTED, and the path detaches at once (R46, R47). -/
theorem test_probeRelease_aborts :
    let run := on6 { measuring (window (quality 8 .probe) 3) with held := some (quality 4 .probe) }
    let t := after (.probeRelease 1 [6]) run
    (t.path 6).state = .recovering
      ∧ t.notices.map (fun n => (n.kind, n.count, n.detail.take 5)) = [(.probeResult, 2, [12, 0, 3, 4, 0])] := by
  decide +kernel

theorem witness_TuneProgresses :
    let due := on6 { tuned .waitFeed with tuneDue := some 5000 }
    let settled := on6 { tuned .settling with settleEnd := some 5000 }
    let locking := on6 { tuned .locking with lockEnd := some 5300 }
    let posted := on6 { tuned .locking with lockEnd := some 5300, posted := some (quality 4 .probe) }
    let dead := locking.setFeed 0 { terrestrial with state := .fault }
    (due.path 6).state = .waitFeed ∧ (due.path 6).tap = some 0 ∧ (due.path 6).tuneDue = some 5000
      ∧ reached due.clock 5000 = true
      ∧ (settled.path 6).state = .settling ∧ (settled.path 6).settleEnd = some 5000
      ∧ (locking.path 6).state = .locking ∧ (locking.path 6).tap = some 0 ∧ (locking.feed 0).state = .on
      ∧ (locking.path 6).posted = none ∧ (posted.path 6).state = .locking
      ∧ (posted.path 6).posted = some (quality 4 .probe)
      ∧ (dead.path 6).state = .locking ∧ (dead.path 6).tap = some 0 ∧ (dead.feed 0).state = .fault := by decide +kernel

theorem witness_LockTimeoutFailsTune :
    let s := on6 { tuned .locking with lockEnd := some 5000 }
    let posted := on6 { tuned .locking with lockEnd := some 5000, posted := some (quality 4 .probe) }
    (s.path 6).state = .locking ∧ (s.path 6).lockEnd = some 5000 ∧ reached s.clock 5000 = true
      ∧ (s.path 6).tuned = some 12 ∧ (s.path 6).tuneRequester = some .probe ∧ (s.path 6).posted = none
      ∧ (posted.path 6).state = .locking ∧ (posted.path 6).lockEnd = some 5000 ∧ (posted.path 6).tuned = some 12
      ∧ (posted.path 6).tuneRequester = some .probe ∧ (posted.path 6).posted = some (quality 4 .probe) := by
  decide +kernel

theorem witness_BlockEndCounts :
    let w := window (quality 8 .probe) 2
    let lead := { w with lead := 2, counted := 0 }
    let read := { window ⟨.content, 4, 1, false, .probe⟩ 0 with lead := 1 }
    let level := window ⟨.level, 8, 0, false, .probe⟩ 6
    let x := (on6 (measuring w)).path 6
    x.state = .measuring ∧ x.window = some w ∧ x.blockEnd = some 5000 ∧ reached (on6 (measuring w)).clock 5000 = true
      ∧ x.tap = some 0 ∧ (plant.feed 0).state = .on
      ∧ lead.leadDone < lead.lead ∧ lead.meas.cls ≠ .content
      ∧ read.leadDone + 1 = read.lead ∧ read.meas.cls = .content
      ∧ w.lead ≤ w.leadDone ∧ w.meas.cls = .quality ∧ w.counted + 1 ≠ w.meas.window
      ∧ ({ w with cut := true }.cut = true → w.counted + 1 ≠ 4) ∧ block.locked = true
      ∧ level.meas.cls = .level ∧ level.counted + 1 ≠ level.meas.window ∧ level.cut = false
      ∧ { read with leadDone := 1 }.lead ≤ { read with leadDone := 1 }.leadDone
      ∧ ((base.setFeed 0 { terrestrial with state := .retry }).feed 0).state ≠ .on
      ∧ (⟨false, 70, 0, 0, []⟩ : BlockSample).locked = false := by decide +kernel

theorem witness_WindowEndsWithResult :
    let w := window (quality 8 .probe) 7
    let x := (on6 (measuring w)).path 6
    x.state = .measuring ∧ x.window = some w ∧ x.blockEnd = some 5000 ∧ reached (on6 (measuring w)).clock 5000 = true
      ∧ x.tuned = some 12 ∧ w.lead ≤ w.leadDone ∧ w.meas.cls ≠ .content ∧ w.counted + 1 = w.meas.window ∧ w.cut = false
      ∧ x.held = none ∧ w.meas.release = false := by decide +kernel

/-- A last block with a measure held, with the release flag, and with a cut at block 4. -/
theorem witness_WindowEndsWithResult_after :
    let m := quality 8 .probe
    let w := window m 7
    let held := { measuring w with held := some ⟨.content, 4, 2, false, .probe⟩ }
    let ending := window { m with release := true } 7
    let cut := { window m 3 with cut := true }
    (((on6 held).path 6).state = .measuring ∧ ((on6 held).path 6).window = some w ∧ ((on6 held).path 6).held ≠ none
      ∧ ((on6 held).path 6).tuned = some 12 ∧ ((on6 held).path 6).blockEnd = some 5000)
    ∧ (((on6 (measuring ending)).path 6).window = some ending ∧ ((on6 (measuring ending)).path 6).held = none
      ∧ ending.meas.release = true ∧ ending.counted + 1 = ending.meas.window ∧ ending.cut = false)
    ∧ (((on6 (measuring cut)).path 6).window = some cut ∧ cut.cut = true ∧ cut.counted + 1 = 4
      ∧ cut.lead ≤ cut.leadDone ∧ cut.meas.cls ≠ .content) := by decide +kernel

/-- Results that their requester alone takes, and one that goes on to its receiver. -/
theorem witness_WindowEndsWithResult_handed :
    { noLock 12 with cls := none }.cls = none ∧ { noLock 12 with outcome := .aborted }.outcome = .aborted
      ∧ (noLock 12).cls ≠ none ∧ (noLock 12).outcome ≠ .aborted ∧ (plant.sweep 1).stage ≠ .inFlight
      ∧ (plant.sweep 1).current = none := by decide +kernel

/-- A probe is told of its result by PROBE_RESULT (R49, Table 13-11); the result goes to its receiver with what R9 asks,
but an ABORTED one does not (R61); a result for a recheck ends its loan (R90). -/
theorem test_handover :
    let r : Result :=
      { noLock 12 with
        requester := .probe, outcome := .complete, counted := 8, locked := 4, levelAvg := some 120, merSum := 1200
        erroredSum := 0x203 }
    let told (s : State) : List (NoticeKind × Nat × List Byte) := s.notices.map fun n => (n.kind, n.object, n.detail)
    let loan : Loan := ⟨⟨12, .quality, .urgent, .probe, 4000⟩, ⟨.quality, 4, 1, true, .recheck⟩, true⟩
    told (plant.deliver r) = [(.probeResult, 1, [12, 0, 0, 8, 8, 4, 120, 3, 2, 0x2C, 1])]
      ∧ ((plant.deliver r).path 1).outbox = [⟨r, true⟩]
      ∧ (((plant.setCarrier 12 (disabled carrier12)).deliver r).path 1).outbox = [⟨r, false⟩]
      ∧ ((plant.deliver { r with outcome := .aborted }).path 1).outbox = []
      ∧ told (plant.deliver { r with cls := none, programmed := none, outcome := .noLock, levelAvg := none })
        = [(.probeResult, 1, [12, 0xFF, 2, 0xFF, 8, 4, 0xFF, 3, 2, 0, 0])]
      ∧ ((((plant.setSweep 1 { list4 .resting 100 with loan := some loan }).deliver
        { r with requester := .recheck, outcome := .aborted }).sweep 1).loan) = none := by decide +kernel

/-- The cut does not shorten the stay: an earliest detach of 4,900 ms becomes 5,200 ms (R41). -/
theorem test_blockEnd_cut_keeps_stay :
    let w := { window (quality 8 .probe) 3 with cut := true }
    ((after (.blockEnd 6 block) (on6 (measuring w))).path 6).earliestDetach = some 5200 := by decide +kernel

/-- The four cases of a section, at the bounds of its number, and a section that completes the read. -/
theorem witness_SectionIsGathered :
    let hd : GatheringHead := ⟨⟨0x2210, 0x31⟩, 8, 2⟩
    let g : Gathering := ⟨some hd, [⟨0, []⟩]⟩
    let w := { window ⟨.content, 4, 0, false, .probe⟩ 0 with gathering := some g }
    let x := (on6 (measuring w)).path 6
    let done : Gathering := ⟨some ⟨⟨0x2210, 0x31⟩, 8, 0⟩, [⟨0, []⟩]⟩
    x.state = .measuring ∧ x.window = some w ∧ w.gathering = some g ∧ x.tap = some 0 ∧ (plant.feed 0).state = .on
      ∧ (2 : BitVec 3).toNat < (3 : BitVec 3).toNat ∧ (2 : BitVec 3).toNat ≤ (2 : BitVec 3).toNat
      ∧ g.head ≠ some ⟨⟨0x2210, 0x31⟩, 9, 2⟩ ∧ g.head = some hd ∧ (∃ y ∈ g.sections, y.number = 0)
      ∧ (∀ y ∈ g.sections, y.number ≠ 2) ∧ (⟨some hd, g.sections ++ [⟨2, []⟩]⟩ : Gathering).complete = false
      ∧ done.complete = true ∧ done.announcement = some ⟨⟨0x2210, 0x31⟩, 8, false, []⟩ ∧ x.tuned = some 12 := by
  decide +kernel

/-- A read that gathers on a feed in FAULT, and paths that gather nothing (R62). -/
theorem witness_SectionIsGathered_nothing :
    let w := { window ⟨.content, 4, 0, false, .probe⟩ 0 with gathering := some ⟨none, []⟩ }
    let dead := (on6 (measuring w)).setFeed 0 { terrestrial with state := .fault }
    let leading := window ⟨.content, 4, 1, false, .probe⟩ 0
    (dead.path 6).tap = some 0 ∧ (dead.feed 0).state = .fault ∧ (dead.path 6).state = .measuring
      ∧ ((on6 (tuned .locked)).path 6).state ≠ .measuring
      ∧ ((on6 (measuring leading)).path 6).window = some leading ∧ leading.gathering = none
      ∧ ((on6 (measuring { w with gathering := some ⟨none, []⟩ })).path 6).tap = some 0
      ∧ ((plant.setFeed 0 { terrestrial with state := .setting }).feed 0).state = .setting := by decide +kernel

def sent (n : Half) (k : Byte) (name : List Byte) : SentEntry := ⟨n, k, false, true, name⟩

/-- Section 1 arrived first; service id 0 and kind 3 are passed over, service 5 keeps its first occurrence, that of section
0, and a name of 21 characters is cut (R64, R65). -/
theorem test_announcement_built :
    let g : Gathering :=
      ⟨some ⟨⟨0x2210, 0x31⟩, 8, 1⟩,
        [⟨1, [sent 5 0 [], sent 7 2 []]⟩, ⟨0, [sent 0 0 [], sent 6 3 [], sent 5 1 (List.replicate 21 65)]⟩]⟩
    g.announcement = some ⟨⟨0x2210, 0x31⟩, 8, false, [⟨5, .radio, false, true, List.replicate 20 65⟩,
      ⟨7, .data, false, true, []⟩]⟩ := by decide +kernel

/-- Of 33 services 32 are kept, and the read is TRUNCATED; of 32 it is not (R64). -/
theorem test_announcement_truncated :
    let g (n : Nat) : Gathering :=
      ⟨some ⟨⟨1, 1⟩, 8, 0⟩, [⟨0, (List.range n).map fun k => sent (BitVec.ofNat 16 (k + 1)) 0 []⟩]⟩
    ((g 33).announcement.map fun a => (a.truncated, a.entries.length)) = some (true, 32)
      ∧ ((g 32).announcement.map fun a => (a.truncated, a.entries.length)) = some (false, 32) := by decide +kernel

theorem witness_ContentTimeoutEndsRead :
    let g : Gathering := ⟨none, []⟩
    let w := { window ⟨.content, 4, 0, false, .probe⟩ 0 with gathering := some g }
    let s (e : Stamp) : State := on6 { measuring w with contentEnd := some e }
    ((s 5000).path 6).state = .measuring ∧ ((s 5000).path 6).window = some w ∧ w.gathering = some g
      ∧ ((s 5000).path 6).contentEnd = some 5000 ∧ reached (s 5000).clock 5000 = true
      ∧ ((s 5000).path 6).tuned = some 12 ∧ w.meas.cls = .content
      ∧ ((s 5001).path 6).contentEnd = some 5001 ∧ reached (s 5001).clock 5001 = false := by decide +kernel

theorem witness_DetachAndRecovery :
    let s := on6 (tuned .releasing)
    let t := on6 { Path.cold with mode := .manual, state := .recovering, recoveryEnd := some 5000 }
    (s.path 6).state = .releasing ∧ (s.path 6).earliestDetach = some 4900 ∧ reached s.clock 4900 = true
      ∧ (s.path 6).outbox = [] ∧ (s.path 6).tap = some 0
      ∧ ((on6 (early .releasing)).path 6).state = .releasing
      ∧ ((on6 (early .releasing)).path 6).earliestDetach = some 5001 ∧ reached (on6 (early .releasing)).clock 5001 = false
      ∧ (t.path 6).state = .recovering ∧ (t.path 6).recoveryEnd = some 5000 ∧ reached t.clock 5000 = true
      ∧ (t.path 6).heldTune = none ∧ (t.path 6).pendingMode = none := by decide +kernel

/-- A recovery that ends with a pending mode, and with a held tune that fails or asks its feed (R33, R34, R48). -/
theorem witness_DetachAndRecovery_recovered :
    let ends (x : Path) : State := on6 { x with state := .recovering, recoveryEnd := some 5000 }
    let pends (m : PathMode) : State := ends { Path.cold with mode := .manual, pendingMode := some m }
    let holds (c : Nat) (q : Requester) : State := ends { Path.cold with mode := .list, heldTune := some ⟨c, q, none⟩ }
    let off := (holds 12 .list).setFeed 0 { terrestrial with state := .off }
    let retry := (holds 12 .probe).setFeed 0 { terrestrial with state := .retry }
    (∀ m ∈ [PathMode.list, .off], ((pends m).path 6).state = .recovering ∧ ((pends m).path 6).recoveryEnd = some 5000
      ∧ reached (pends m).clock 5000 = true ∧ ((pends m).path 6).heldTune = none
      ∧ ((pends m).path 6).pendingMode = some m)
    ∧ (((holds 13 .list).path 6).heldTune = some ⟨13, .list, none⟩ ∧ (holds 13 .list).carrier 13 = none)
    ∧ (off.carrier 12 = some carrier12 ∧ (off.feed 0).state = .off)
    ∧ ((retry.path 6).heldTune = some ⟨12, .probe, none⟩ ∧ (retry.feed 0).state ≠ .on)
    ∧ (((holds 12 .probe).feed 0).state = .on ∧ ((holds 12 .probe).feed 0).waiting = [] ∧ (holds 12 .probe).users 0 = 0)
    ∧ (((holds 12 .list).path 6).heldTune = some ⟨12, .list, none⟩ ∧ ((holds 12 .list).feed 0).state ≠ .off) := by
  decide +kernel

/-- A held probe tune on a feed in RETRY ends NO_LOCK, and the path is PARKED (R48). -/
theorem test_recoveryEnd_busy :
    let s := (on6 { Path.cold with
      mode := .manual, state := .recovering, recoveryEnd := some 5000, heldTune := some ⟨12, .probe, none⟩ }).setFeed 0
        { terrestrial with state := .retry }
    let t := after (.recoveryEnd 6) s
    (t.path 6).state = .parked ∧ (t.path 6).heldTune = none
      ∧ t.notices.map (fun n => (n.kind, n.detail.take 3)) = [(.probeResult, [12, 0xFF, 2])] := by decide +kernel

/-! ## Witnesses: the survey -/

/-- Each survey state, with list 0 of a LIST path in each list state. -/
theorem witness_SurveyRequestsByState :
    let at' (v : SurveyState) (l : ListState) : State :=
      { (base.setSweep 0 { SweepList.cold with descriptor := some ⟨0, 1, 0, true⟩, state := l }).setPath 0
          { Path.cold with mode := .list } with survey := v }
    (at' .stopped .idle).takes = true ∧ (at' .stopped .idle).survey = .stopped
      ∧ (at' .stopping .idle).takes = true ∧ (at' .stopping .idle).survey = .stopping
      ∧ (at' .running .running).takes = true ∧ (at' .running .running).survey = .running
      ∧ ((at' .running .running).sweep 0).state = .running ∧ ((at' .running .resting).sweep 0).state = .resting
      ∧ ((at' .running .done).sweep 0).state = .done
      ∧ (at' .paused .suspended).takes = true ∧ (at' .paused .suspended).survey = .paused
      ∧ (∀ p, ((at' .paused .suspended).path p).mode = .list → ((at' .paused .suspended).path p).state = .parked) := by
  decide +kernel

/-- STOPPING, with every list still: the last LIST path comes to the end of its recovery, or another is on its way yet. -/
def stopping (x : Path) : State :=
  { (base.setPath 4 { Path.cold with mode := .list, state := .recovering, recoveryEnd := some 5000 }).setPath 5 x with
    survey := .stopping }

theorem witness_SurveyRequestsByState_stopping :
    let last := stopping Path.cold
    let other := stopping { Path.cold with mode := .list, state := .releasing, earliestDetach := some 5001 }
    last.survey = .stopping ∧ (last.sweep 0).state = .idle ∧ (last.sweep 4).state = .idle
      ∧ (last.path 4).state = .recovering ∧ (last.path 4).heldTune = none ∧ (last.path 4).recoveryEnd = some 5000
      ∧ reached last.clock 5000 = true ∧ (∀ q, q ≠ 4 → (last.path q).mode = .list → (last.path q).state = .parked)
      ∧ (∀ n, (last.sweep n).stage = .notBegun ∧ (last.sweep n).loan = none)
      ∧ (other.path 5).mode = .list ∧ (other.path 5).state ≠ .parked
      ∧ (∀ p, ((last.setPath 4 Path.cold).path p).mode = .list → ((last.setPath 4 Path.cold).path p).state = .parked) := by
  decide +kernel

/-- The last LIST path parks: the survey is STOPPED, for PATHS_PARKED (R175). -/
theorem test_stopping_ends :
    let t := after (.recoveryEnd 4) (stopping Path.cold)
    let u := after (.recoveryEnd 4)
      (stopping { Path.cold with mode := .list, state := .releasing, earliestDetach := some 5001 })
    t.survey = .stopped ∧ t.notices.map (fun n => (n.kind, n.detail)) = [(.surveyState, [3, 0, 1])]
      ∧ u.survey = .stopping ∧ u.notices = [] := by decide +kernel

/-- A STOP on a LIST path that is LOCKED with its earliest detach ahead: the survey is STOPPING (R174, R175). -/
theorem test_surveyStop_releases :
    let s : State := { plant.setPath 4 { tuned .locked with mode := .list, earliestDetach := some 5001 } with survey := .paused }
    let t := after (.surveyStop 1 []) s
    (t.survey, (t.path 4).state) = (.stopping, .releasing) := by decide +kernel

theorem witness_RestartWaitsForItsReply :
    let u : State := { owes [⟨0xB4, 1, .ok, []⟩] with restarting := some .all }
    let s : State := { owes [⟨0xB4, 1, .outOfRange, [1]⟩, owed .ok] with restarting := some .all }
    base.takes = true ∧ 1 < (2 : Byte).toNat ∧ (∃ r ∈ u.replies, r.kind = 0xB4 ∧ r.code = .ok)
      ∧ s.restarting = some .all ∧ (∀ r ∈ s.replies, ¬ (r.kind = 0xB4 ∧ r.code = .ok)) ∧ s.waiting = [] := by
  decide +kernel

/-- A frame in reception 20 ms after its latest byte is received on to its end through RESTART_ALL, and is the first
request taken (R178, R179). -/
theorem test_restartAll_keeps_frame :
    let got : List Byte := [0, 0, 0x30, 7]
    let s : State :=
      { base with restarting := some .all, survey := .running, frameInput := .receiving got 4980 }
    let t := after .restartAll s
    t.frameInput.gapped t.clock = false
      ∧ (after (.frameError (goodChars (checkBytes got))) t).survey = .running
      ∧ answer (after (.frameError (goodChars (checkBytes got))) t) = some (0xB0, .ok) := by decide +kernel

/-- A frame that overruns behind a waiting request owes FRAME_ERROR behind the reply of that request (R181). -/
theorem test_frameError_behind_waiting :
    let s : State := { owes [⟨0xB4, 1, .ok, []⟩] with restarting := some .survey }
    let s := after (.frameError [⟨0xA5, true⟩, ⟨0, false⟩]) (after (.readStatus 9 []) s)
    let t := after .restartSurvey (after .replySent s)
    s.replies.length = 1 ∧ t.waiting = [] ∧ t.replies.map (fun r => (r.tag, r.code)) = [(9, .ok), (0, .frameError)] := by
  decide +kernel

theorem witness_RestartSurveyParks :
    let s : State := { onAir with restarting := some .survey, survey := .running }
    s.restarting = some .survey ∧ (∀ r ∈ s.replies, ¬ (r.kind = 0xB4 ∧ r.code = .ok)) ∧ s.waiting = []
      ∧ (∀ e ∈ s.services, ∀ x ∈ e.2.cands, x.orphan = false) ∧ (s.slot 0).state ≠ .seeking
      ∧ (s.slot 0).state ≠ .onAir := by
  decide +kernel

/-- Requests that wait for a restart, with a FRAME_ERROR between them, and with a further RESTART among them. -/
def waits (scope : RestartScope) (l : List Awaiting) : State := { base with restarting := some scope, waiting := l }

theorem witness_RestartWaitsForItsReply_waiting :
    let l : List Awaiting := [.request ⟨0x57, 1, []⟩, .frameError, .request ⟨0x30, 2, []⟩]
    (waits .all l).restarting = some .all ∧ (waits .survey l).restarting = some .survey
      ∧ (∀ r ∈ (waits .all l).replies, ¬ (r.kind = 0xB4 ∧ r.code = .ok)) ∧ (waits .all l).waiting ≠ []
      ∧ requestOf (.readStatus 1 []) = some ⟨0x57, 1, []⟩ ∧ base.takes = true
      ∧ ({ base with waiting := l } : State).restarting = none
      ∧ l.map (fun a => match a with
        | .request r => r.kind
        | .frameError => 0xFF) = [0x57, 0xFF, 0x30] ∧ (waits .all []).restarting ≠ none := by decide +kernel

/-- The requests that waited are taken after the restart, in order, against the state it has left: the survey starts only
after READ_STATUS has found it STOPPED (R176, R181). -/
theorem test_restart_takes_waiting :
    let t := after .restartSurvey
      { waits .survey [.request ⟨0x57, 1, []⟩, .frameError, .request ⟨0x30, 2, []⟩] with survey := .running }
    t.waiting = [] ∧ t.survey = .running
      ∧ t.replies.map (fun r => (r.kind, r.tag, r.code)) = [(0xD7, 1, .ok), (0xFF, 0, .frameError), (0xB0, 2, .ok)] := by
  decide +kernel

/-- A further RESTART among them is taken, and what waits behind it waits on (R176). -/
theorem test_restart_behind_restart :
    let t := after .restartAll (waits .all [.request ⟨0x34, 1, [0]⟩, .frameError, .request ⟨0x57, 2, []⟩])
    t.restarting = some .survey ∧ t.waiting = [.request ⟨0x57, 2, []⟩]
      ∧ t.replies.map (fun r => (r.kind, r.tag, r.code)) = [(0xB4, 1, .ok)] := by decide +kernel

/-- A SWITCHING slot hands over its SET again, with the shelf's next tag (R153, R168). -/
theorem test_restartSurvey_reorders :
    let s : State := { flying switching setOrder .awaitingDone (some 9000) with restarting := some .survey }
    let t := after .restartSurvey s
    (t.shelf 2).inFlight.map (fun f => (f.order.tag, f.stage, f.timerEnd)) = some (42, .awaitingAccept, none)
      ∧ ((t.slot 7).state, (t.slot 7).target, (t.slot 7).lastReason) = (.switching, some ⟨20, 77⟩, some .failover) := by
  decide +kernel

/-! ## Witnesses: services -/

def pair : Pair := ⟨0x3050, 210⟩

theorem witness_AliasAndDropRequests :
    let bound : State := { lineup with bindings := [⟨pair, 0x30⟩] }
    let full : State := { lineup with bindings := (List.range 512).map fun n => ⟨⟨0, n + 1⟩, 0x30⟩ }
    let crowd : State := { base with services := (List.range 384).map fun n => (n + 1, ⟨none, .unknown, [], []⟩) }
    let found := lineup.setService 0x8002 ⟨some pair, .tv, [], [cand 14 210]⟩
    let refers : CandName → CandName → State → State := fun a c s =>
      s.setSlot 0 { slot7 .onAir (some a) with target := some c }
    let seven := ((lineup.setService 0x30
        ⟨none, .tv, [], [cand 1 1, cand 2 1, cand 3 1, cand 4 1, cand 5 1, cand 6 1]⟩).setService 0x8002
          ⟨some pair, .tv, [], [cand 14 210]⟩)
    let seven := (refers ⟨1, 1⟩ ⟨2, 1⟩ seven).setSlot 1 { slot7 .onAir (some ⟨3, 1⟩) with target := some ⟨4, 1⟩ }
    let seven := seven.setSlot 2 { slot7 .onAir (some ⟨5, 1⟩) with target := some ⟨6, 1⟩ }
    let seven := seven.setSlot 3 { slot7 .onAir (some ⟨14, 210⟩) with binding := some ⟨0x8002, 2, 6⟩ }
    lineup.takes = true ∧ pair.network < 65536 ∧ 1 ≤ pair.serviceId ∧ pair.serviceId < 65536 ∧ 1 ≤ 0x30 ∧ 0x30 ≤ 0x7FFF
      ∧ full.takes = true ∧ 512 ≤ full.bindings.length
      ∧ crowd.takes = true ∧ crowd.foundKey pair = none ∧ crowd.service 0x7FFF = none ∧ 384 ≤ crowd.services.length
      ∧ lineup.foundKey pair = none ∧ lineup.bindings.length < 512 ∧ lineup.service 0x30 ≠ none
      ∧ lineup.boundKey pair = none ∧ lineup.service 0x31 = none ∧ lineup.services.length < 384
      ∧ bound.takes = true ∧ bound.foundKey pair = none ∧ bound.boundKey pair ≠ none
      ∧ found.takes = true ∧ found.foundKey pair = some 0x8002 ∧ found.bindings.length < 512
      ∧ found.boundKey pair = none ∧ found.referredCount 0x30 + found.referredCount 0x8002 ≤ 6
      ∧ seven.takes = true ∧ seven.foundKey pair = some 0x8002 ∧ seven.boundKey pair = none
      ∧ 6 < seven.referredCount 0x30 + seven.referredCount 0x8002
      ∧ onAir.takes = true ∧ (∃ i, ((onAir.slot i).binding.map (·.key)) = some 0x30)
      ∧ (∀ i, ((lineup.slot i).binding.map (·.key)) ≠ some 0x30) := by decide +kernel

/-- Service 0x0030 of six candidates, two of them referred to, and a FOUND service with one on a FRESH carrier. -/
def merging : State :=
  (((lineup.setService 0x30
      ⟨none, .tv, [], [cand 12 501, cand 20 77, cand 21 1, cand 22 1, cand 23 1, cand 24 1]⟩).setService 0x8002
        ⟨some pair, .radio, [65], [cand 30 210]⟩).setSlot 7
          { slot7 .onAir (some ⟨12, 501⟩) with target := some ⟨24, 1⟩ }).setSlot 8
            { slot7 .vacant none with bar := some ⟨⟨23, 1⟩, 9000⟩, challenger := some ⟨23, 1⟩, wins := 2 }

/-- A merge that must free one of seven, a candidate that goes alone, and one that takes its FOUND service with it. -/
theorem witness_AliasAndDropRequests_merge :
    let s := merging
    let alone := lineup.setService 0x8002 ⟨some pair, .tv, [], [cand 14 210]⟩
    s.takes = true ∧ s.foundKey pair = some 0x8002 ∧ (s.service 0x8002).isSome = true ∧ s.bindings.length < 512
      ∧ s.boundKey pair = none ∧ s.referredCount 0x30 + s.referredCount 0x8002 = 2
      ∧ s.candidate? ⟨23, 1⟩ = some (0x30, cand 23 1) ∧ (s.service 0x30).map (·.pair) = some none
      ∧ alone.candidate? ⟨14, 210⟩ = some (0x8002, cand 14 210)
      ∧ (alone.service 0x8002).map (fun v => (v.pair, v.cands)) = some (some pair, [cand 14 210])
      ∧ (∀ i, ((alone.slot i).binding.map (·.key)) ≠ some 0x8002) := by decide +kernel

/-- SERVICE_DROP of the highest automatic key, with and without a slot, and of the keys on either side of the range. -/
theorem witness_AliasAndDropRequests_drop :
    let top := lineup.setService 0x817F ⟨some pair, .tv, [], [cand 14 210]⟩
    let bound := top.setSlot 7 { slot7 .seeking none with binding := some ⟨0x817F, 2, 5⟩ }
    (0x7F : Byte).toNat + 256 * (0x81 : Byte).toNat = 0x817F ∧ (0x80 : Byte).toNat + 256 * (0x81 : Byte).toNat = 0x8180
      ∧ (0 : Byte).toNat + 256 * (0 : Byte).toNat = 0 ∧ 1 ≤ (1 : Byte).toNat + 256 * (0 : Byte).toNat
      ∧ lineup.takes = true ∧ lineup.service 0x817F = none
      ∧ top.takes = true ∧ top.service 0x817F = some ⟨some pair, .tv, [], [cand 14 210]⟩
      ∧ (∀ i, ((top.slot i).binding.map (·.key)) ≠ some 0x817F)
      ∧ bound.takes = true ∧ bound.service 0x817F ≠ none
      ∧ ((bound.slot 7).binding.map (·.key)) = some 0x817F := by decide +kernel

/-- A FOUND service is dropped by its automatic key (R126). -/
theorem test_serviceDrop_found :
    let t := after (.serviceDrop 1 [2, 0x80]) (lineup.setService 0x8002 ⟨some pair, .tv, [], [cand 14 210]⟩)
    t.service 0x8002 = none ∧ t.candidate? ⟨14, 210⟩ = none ∧ answer t = some (0xBA, .ok) := by decide +kernel

/-- Of the seven the ones referred to, 12 and 24, and the best four of the others stay: 30, at 560 points, and 20, at 590,
before 21 and 22, which have no standing; 23 is freed (R124). -/
theorem test_merge_keeps :
    let t := after (.aliasBind 1 (le16 pair.network ++ le16 pair.serviceId ++ le16 0x30)) merging
    (t.service 0x30).map (fun v => v.cands.map (·.name.carrier)) = some [12, 20, 21, 22, 24, 30]
      ∧ t.notices.map (fun n => (n.kind, n.object, n.detail)) = [(.candidateOverflow, 0x30, [1, 23, 1, 0])]
      ∧ ((t.slot 8).bar, (t.slot 8).challenger, (t.slot 8).wins) = (none, none, 0) := by decide +kernel

/-- A CONTENT read of carrier 12 that announces one service. -/
def read (e : Announced) : Result :=
  { noLock 12 with
    cls := some .content, programmed := none, outcome := .complete
    announcement := some ⟨⟨0x3050, 1⟩, 4, false, [e]⟩ }

/-- An entry of service 210, of kind TV. -/
def entry210 : Announced := ⟨210, .tv, false, true, []⟩

theorem witness_ContentResultFilesAnnouncement :
    let s := hand (read entry210) true plant
    let other := s.setCarrier 12 { carrier12 with content := ⟨.known, some ⟨0x3050, 2⟩, some 3, false⟩ }
    (s.path 1).outbox = [⟨read entry210, true⟩] ∧ (read entry210).cls = some .content
      ∧ (read entry210).announcement = some ⟨⟨0x3050, 1⟩, 4, false, [entry210]⟩
      ∧ s.carrier (read entry210).carrier = some carrier12 ∧ carrier12.content.identity = none
      ∧ (other.carrier 12).bind (·.content.identity) = some ⟨0x3050, 2⟩
      ∧ ((hand (read entry210) false plant).path 1).outbox = [⟨read entry210, false⟩]
      ∧ { read entry210 with announcement := none }.announcement = none
      ∧ (hand { read entry210 with carrier := 13 } true plant).carrier 13 = none := by decide +kernel

/-- A candidate that an announcement no longer names becomes absent and keeps its other flags; one it names, an orphan and
one on another carrier stay as they are (R121). -/
theorem test_contentResult_marks_absent :
    let orphan : Candidate := { cand 12 6 with orphan := true }
    let s := (plant.setService 0x30 ⟨none, .tv, [], [{ cand 12 5 with scrambled := true }, orphan, cand 13 5]⟩).setService
      0x8000 ⟨some pair, .tv, [], [cand 12 210]⟩
    let t := after (.contentResult 1) (hand (read entry210) true s)
    (t.service 0x30).map (·.cands)
        = some [{ cand 12 5 with scrambled := true, absent := true }, orphan, cand 13 5]
      ∧ (t.service 0x8000).map (·.cands) = some [cand 12 210] := by decide +kernel

theorem witness_ContentResultFilesAnnouncement_revised :
    let s := plant.setService 0x30 ⟨none, .tv, [], [cand 12 5, cand 13 5]⟩
    s.candidate? ⟨12, 5⟩ = some (0x30, cand 12 5) ∧ s.service 0x30 = some ⟨none, .tv, [], [cand 12 5, cand 13 5]⟩
      ∧ s.candidate? ⟨12, 6⟩ = none ∧ s.referred ⟨12, 5⟩ = false ∧ onAir.referred ⟨12, 501⟩ = true
      ∧ [1, 3].Pairwise (· < ·) := by decide +kernel

/-- Service 0x30 with the given candidates, its origin the pair of service 210. -/
def holds (l : List Candidate) : State := plant.setService 0x8000 ⟨some pair, .tv, [], l⟩
def six : List Candidate := [cand 1 1, cand 2 1, cand 3 1, cand 4 1, cand 5 1, cand 6 1]

/-- A pool and a service table that are full. -/
def fullTable : State := { plant with services := (List.range 384).map fun k => (k + 1, ⟨none, .tv, [], []⟩) }
def fullPool : State :=
  let cs (k : Nat) : List Candidate := (List.range 4).map fun n => cand (20 + n) (k + 1)
  { plant with services := (List.range 256).map fun k => (k + 1, ⟨none, .tv, [], cs k⟩) }

/-- The cases of an entry: its candidate updated and passed over, made in a service with room, in one of six whose lowest
ranked gives way or not, in a full pool and a full table, and a new service. -/
theorem witness_ContentResultFilesAnnouncement_entry :
    let n : CandName := ⟨12, 210⟩
    let orphan : Candidate := { cand 12 210 with orphan := true }
    let gone : List Candidate := { cand 6 1 with absent := true } :: six.dropLast
    let lost := (holds six).setCarrier 6 { carrier12 with reception := { carrier12.reception with state := .lost } }
    let named := (holds six).setSlot 0 { slot7 .onAir (some ⟨6, 1⟩) with binding := some ⟨0x8000, 2, 5⟩ }
    ((holds [cand 12 210]).candidate? n = some (0x8000, cand 12 210)
      ∧ (holds [orphan]).candidate? n = some (0x8000, orphan) ∧ orphan.orphan = true)
    ∧ ((holds [cand 1 1]).candidate? n = none ∧ (holds [cand 1 1]).boundKey pair = none
      ∧ (holds [cand 1 1]).foundKey pair = some 0x8000 ∧ (holds [cand 1 1]).poolSize < 1024
      ∧ (holds [cand 1 1]).service 0x8000 = some ⟨some pair, .tv, [], [cand 1 1]⟩ ∧ [cand 1 1].length < 6)
    ∧ ({ holds [] with bindings := [⟨pair, 0x8000⟩] }.boundKey pair = some 0x8000)
    ∧ ((holds six).candidate? n = none ∧ 6 ≤ six.length ∧ (∀ z ∈ six, z.name ≠ n)
      ∧ (((holds six).rankOrder six).getLast?).map (·.name) = some ⟨6, 1⟩ ∧ (holds six).carrier 6 = none)
    ∧ (((holds gone).rankOrder gone).getLast? = some { cand 6 1 with absent := true }
      ∧ (holds gone).referred ⟨6, 1⟩ = false
      ∧ ((holds gone).freeCandidate ⟨6, 1⟩).service 0x8000 = some ⟨some pair, .tv, [], six.dropLast⟩)
    ∧ ((lost.rankOrder six).getLast? = some (cand 6 1)
      ∧ (lost.carrier 6).map (·.reception.state) = some .lost ∧ lost.referred ⟨6, 1⟩ = false)
    ∧ ((named.rankOrder six).getLast? = some (cand 6 1) ∧ named.referred ⟨6, 1⟩ = true)
    ∧ (plant.candidate? n = none ∧ plant.boundKey pair = none ∧ plant.foundKey pair = none ∧ plant.poolSize < 1024
      ∧ plant.services.length < 384 ∧ plant.service 0x8000 = none) := by decide +kernel

theorem witness_ContentResultFilesAnnouncement_full :
    let n : CandName := ⟨12, 210⟩
    (1024 ≤ fullPool.poolSize ∧ fullPool.candidate? n = none ∧ fullPool.boundKey pair = none
      ∧ fullPool.foundKey pair = none)
    ∧ (fullTable.poolSize < 1024 ∧ 384 ≤ fullTable.services.length ∧ fullTable.candidate? n = none
      ∧ fullTable.boundKey pair = none ∧ fullTable.foundKey pair = none) := by decide +kernel

/-- Another identity releases the carrier's candidate, posts CARRIER_CHANGED and files the entry anew (R116, R119). -/
theorem test_contentResult_moves :
    let c : Carrier := { carrier12 with content := ⟨.known, some ⟨0x2210, 1⟩, some 3, false⟩ }
    let s := (plant.setCarrier 12 c).setService 0x8000 ⟨some ⟨0x2210, 9⟩, .tv, [], [cand 12 9]⟩
    let t := after (.contentResult 1) (hand (read entry210) true s)
    t.candidate? ⟨12, 9⟩ = none ∧ t.foundKey pair = some 0x8000
      ∧ t.notices.map (fun m => m.kind) = [.carrierChanged, .serviceFound]
      ∧ (t.carrier 12).map (·.content) = some ⟨.known, some ⟨0x3050, 1⟩, some 4, false⟩ := by decide +kernel

/-! ## Witnesses: slots -/

theorem witness_SlotSetBinds :
    let clearing := lineup.setShelf 2 { Shelf.cold with queue := [clearOrder] }
    let inFlight := flying lineup clearOrder .awaitingAccept (some 5250)
    let empty := lineup.setService 0x8000 ⟨none, .tv, [], []⟩
    lineup.takes = true ∧ 1 ≤ 1 ∧ 0x817F ≤ 0x817F ∧ lineup.service 0x817F = none
      ∧ switching.takes = true ∧ switching.service 0x30 ≠ none ∧ (switching.slot 7).state = .switching
      ∧ onAir.takes = true ∧ (onAir.slot 8).state ≠ .switching
      ∧ (onAir.slot 7).binding = some ⟨0x30, 2, 5⟩ ∧ (7 : Fin 64) ≠ 8
      ∧ clearing.takes = true ∧ (∃ q ∈ (clearing.shelf 2).queue, q.output = 5 ∧ q.kind = .clear)
      ∧ inFlight.takes = true ∧ (inFlight.shelf 2).inFlight = some ⟨clearOrder, .awaitingAccept, some 5250⟩
      ∧ clearOrder.output = 5 ∧ clearOrder.kind = .clear
      ∧ lineup.outputTaken 0 2 5 = false ∧ (lineup.slot 0).active = none ∧ (lineup.slot 0).binding = none
      ∧ lineup.choice { slot7 .seeking none with lastReason := some .host } = some ⟨12, 501⟩
      ∧ empty.choice { slot7 .seeking none with binding := some ⟨0x8000, 2, 5⟩ } = none := by decide +kernel

/-- An orphan that only slot 7 refers to, the last candidate of a FOUND service. -/
def lastOrphan : State :=
  let gone : Candidate := { cand 14 210 with absent := true, orphan := true }
  (lineup.setService 0x8002 ⟨some pair, .tv, [], [gone]⟩).setSlot 7
    { slot7 .held (some ⟨14, 210⟩) with binding := some ⟨0x8002, 2, 5⟩, pinned := true }

/-- The slot is bound again: with an active source that stays, and from a FOUND service whose last candidate, an orphan,
it lets go of; and the three kinds of service that an unbound service may be. -/
theorem witness_SlotSetBinds_again :
    let y : Slot := { slot7 .seeking none with lastReason := some .host }
    let empty := lineup.setService 0x8002 ⟨some pair, .tv, [], []⟩
    onAir.takes = true ∧ onAir.service 0x30 ≠ none ∧ (onAir.slot 7).state ≠ .switching
      ∧ onAir.outputTaken 7 2 5 = false ∧ (onAir.slot 7).binding = some ⟨0x30, 2, 5⟩
      ∧ (onAir.slot 7).active = some ⟨12, 501⟩ ∧ (onAir.setSlot 7 y).candidate? ⟨12, 501⟩ = some (0x30, cand 12 501)
      ∧ (onAir.setSlot 7 y).choice y = some ⟨12, 501⟩
      ∧ lastOrphan.takes = true ∧ (lastOrphan.slot 7).state ≠ .switching ∧ lastOrphan.outputTaken 7 2 5 = false
      ∧ (lastOrphan.slot 7).active = some ⟨14, 210⟩ ∧ (lastOrphan.slot 7).binding = some ⟨0x8002, 2, 5⟩
      ∧ ((lastOrphan.setSlot 7 y).candidate? ⟨14, 210⟩).map (fun e => (e.1, e.2.orphan)) = some (0x8002, true)
      ∧ (lastOrphan.setSlot 7 y).referred ⟨14, 210⟩ = false
      ∧ empty.service 0x8002 = some ⟨some pair, .tv, [], []⟩ ∧ (∀ i, ((empty.slot i).binding.map (·.key)) ≠ some 0x8002)
      ∧ lineup.service 0x30 ≠ none := by decide +kernel

/-- SLOT_SET to another service frees the orphan that the slot let go of, and the FOUND service with it (R115, R147). -/
theorem test_slotSet_lets_go :
    let t := after (.slotSet 1 [7, 0x30, 0, 2, 5, 0]) lastOrphan
    t.service 0x8002 = none ∧ (t.slot 7).target = some ⟨12, 501⟩ ∧ (t.slot 7).active = none ∧ (t.slot 7).pinned = false
      ∧ (t.slot 7).lastReason = some .initial := by decide +kernel

theorem witness_SlotClearEmpties :
    let seeking := lineup.setSlot 7 (slot7 .seeking none)
    switching.takes = true ∧ (switching.slot 7).state = .switching
      ∧ lineup.takes = true ∧ (lineup.slot 7).state ≠ .switching ∧ (lineup.slot 7).binding = none
      ∧ seeking.takes = true ∧ (seeking.slot 7).state ≠ .switching ∧ (seeking.slot 7).binding = some ⟨0x30, 2, 5⟩
      ∧ (seeking.slot 7).active = none := by decide +kernel

/-- A slot with an active source that stays, and one whose source is an orphan that it lets go of; its shelf sends the CLEAR
at once, or queues it. -/
theorem witness_SlotClearEmpties_lets_go :
    let busy := flying onAir setOrder .awaitingDone (some 9000)
    let s := (lastOrphan.enqueue 2 5 .clear).setSlot 7 { Slot.cold with lastReason := some .host }
    onAir.takes = true ∧ (onAir.slot 7).state ≠ .switching ∧ (onAir.slot 7).binding = some ⟨0x30, 2, 5⟩
      ∧ (onAir.slot 7).active = some ⟨12, 501⟩ ∧ (onAir.shelf 2).queue = [] ∧ (onAir.shelf 2).inFlight = none
      ∧ busy.takes = true ∧ (busy.slot 7).binding = some ⟨0x30, 2, 5⟩ ∧ (busy.shelf 2).inFlight ≠ none
      ∧ lastOrphan.takes = true ∧ (lastOrphan.slot 7).state ≠ .switching
      ∧ (lastOrphan.slot 7).binding = some ⟨0x8002, 2, 5⟩ ∧ (lastOrphan.slot 7).active = some ⟨14, 210⟩
      ∧ (s.candidate? ⟨14, 210⟩).map (fun e => (e.1, e.2.orphan)) = some (0x8002, true)
      ∧ s.referred ⟨14, 210⟩ = false := by decide +kernel

/-- SLOT_CLEAR of a slot that holds the last candidate of a FOUND service, an orphan: a CLEAR is sent, and the service
goes (R115, R148). -/
theorem test_slotClear_lets_go :
    let t := after (.slotClear 1 [7]) lastOrphan
    t.slot 7 = { Slot.cold with lastReason := some .host } ∧ t.service 0x8002 = none
      ∧ (t.shelf 2).inFlight.map (fun f => (f.order.kind, f.order.output)) = some (.clear, 5) := by decide +kernel

theorem witness_SlotPinning :
    let held := lineup.setSlot 7 { slot7 .held (some ⟨12, 501⟩) with pinned := true }
    let pinnedSwitching := switching.setSlot 7 { switching.slot 7 with pinned := true }
    let fault := lineup.setSlot 7 (slot7 .fault none)
    let lost := fault.setService 0x30 ⟨none, .tv, [], []⟩
    onAir.takes = true ∧ 1 ≤ 501 ∧ 65535 < 65536 ∧ (onAir.slot 0).binding = none
      ∧ (onAir.slot 7).binding = some ⟨0x30, 2, 5⟩ ∧ onAir.candidateOf 0x30 ⟨13, 501⟩ = none
      ∧ onAir.candidateOf 0x30 ⟨12, 501⟩ ≠ none ∧ (onAir.slot 7).state ≠ .switching
      ∧ (onAir.slot 7).active = some ⟨12, 501⟩ ∧ (onAir.slot 7).active ≠ some ⟨20, 77⟩
      ∧ onAir.candidateOf 0x30 ⟨20, 77⟩ ≠ none
      ∧ switching.takes = true ∧ switching.candidateOf 0x30 ⟨20, 77⟩ ≠ none ∧ (switching.slot 7).state = .switching
      ∧ held.takes = true ∧ (held.slot 7).state = .held
      ∧ pinnedSwitching.takes = true ∧ (pinnedSwitching.slot 7).state = .switching
      ∧ (pinnedSwitching.slot 7).pinned = true ∧ (onAir.slot 7).state ≠ .held ∧ (onAir.slot 7).state ≠ .fault
      ∧ fault.takes = true ∧ (fault.slot 7).state = .fault ∧ (fault.slot 7).active = none
      ∧ fault.choice (fault.slot 7) = some ⟨12, 501⟩
      ∧ lost.takes = true ∧ (lost.slot 7).state = .fault ∧ lost.choice (lost.slot 7) = none := by decide +kernel

/-- A SCORED report on carrier 12. -/
def scored12 : RankReport :=
  ⟨0x30, .scored, some 12, some ⟨12, .scored, .fresh, some 640, .fresh, some 640, 0⟩, []⟩

/-- Slot 7 on the candidate of carrier 30, at 560: carrier 12, at 640 or 600, wins by 40; at 599 it does not. -/
theorem witness_SlotEvaluation_challenge :
    let at' (standing wins : Nat) (hold : Option Stamp) : State :=
      (lineup.setCarrier 12 (fresh carrier12 standing)).setSlot 7
        { slot7 .onAir (some ⟨30, 501⟩) with challenger := some ⟨12, 501⟩, wins := wins, holdEnd := hold }
    let s := at' 600 3 none
    let alone := s.setService 0x30 ⟨none, .tv, [], [cand 30 501]⟩
    (s.slot 7).state = .onAir ∧ (s.slot 7).active = some ⟨30, 501⟩ ∧ (s.slot 7).binding = some ⟨0x30, 2, 5⟩
      ∧ s.candidateOf 0x30 ⟨30, 501⟩ = some (cand 30 501) ∧ s.failureOf (s.slot 7) (cand 30 501) = none
      ∧ s.challengerFor (s.slot 7) ⟨30, 501⟩ = some (cand 12 501) ∧ (s.slot 7).challenger = some ⟨12, 501⟩
      ∧ s.ranksBefore (cand 12 501) (cand 30 501) = true
      ∧ (s.standing 30).getD 0 + s.params.margin ≤ (s.standing 12).getD 0 ∧ s.params.winCount ≤ (s.slot 7).wins
      ∧ ¬ ((at' 599 3 none).standing 30).getD 0 + s.params.margin ≤ ((at' 599 3 none).standing 12).getD 0
      ∧ ((at' 600 2 none).slot 7).wins < s.params.winCount ∧ ((at' 600 0 none).slot 7).wins = 0
      ∧ ((at' 600 3 (some 5001)).slot 7).holdEnd = some 5001 ∧ reached s.clock 5001 = false
      ∧ scored12.cause = .scored ∧ scored12.carrier = some 12
      ∧ alone.challengerFor (alone.slot 7) ⟨30, 501⟩ = none := by decide +kernel

theorem witness_SlotEvaluation_failover :
    let lost := onAir.setCarrier 12
      { carrier12 with reception := { carrier12.reception with state := .lost, standing := some 640 } }
    let alone := lost.setService 0x30 ⟨none, .tv, [], [cand 12 501]⟩
    let seeking := lineup.setSlot 7 (slot7 .seeking none)
    let bare := alone.setSlot 7 (slot7 .seeking none)
    (lost.slot 7).state = .onAir ∧ lost.candidateOf 0x30 ⟨12, 501⟩ = some (cand 12 501)
      ∧ lost.failureOf (lost.slot 7) (cand 12 501) = some .lost ∧ lost.choice (lost.slot 7) = some ⟨20, 77⟩
      ∧ alone.failureOf (alone.slot 7) (cand 12 501) = some .lost ∧ alone.choice (alone.slot 7) = none
      ∧ alone.candidate? ⟨12, 501⟩ = some (0x30, cand 12 501)
      ∧ (seeking.slot 7).state = .seeking ∧ seeking.choice (seeking.slot 7) = some ⟨12, 501⟩
      ∧ (bare.slot 7).state = .seeking ∧ bare.choice (bare.slot 7) = none
      ∧ (switching.slot 7).state ≠ .seeking ∧ (switching.slot 7).state ≠ .onAir := by decide +kernel

/-- The failover of an orphan without a choice: the slot is SEEKING, and the orphan that it lets go of is freed (R115,
R135). -/
theorem test_failover_lets_go :
    let s := lastOrphan.setSlot 7 { lastOrphan.slot 7 with state := .onAir, pinned := false }
    let gone : Candidate := { cand 14 210 with absent := true, orphan := true }
    let e := s.evaluate 7 none
    s.candidateOf 0x8002 ⟨14, 210⟩ = some gone ∧ s.failureOf (s.slot 7) gone = some .absent
      ∧ s.choice (s.slot 7) = none ∧ (e.1.slot 7).state = .seeking ∧ e.1.candidate? ⟨14, 210⟩ = none
      ∧ e.2.map (fun r => (r.key, r.cause, r.carrier)) = [(0x8002, .freed, some 14)]
      ∧ e.1.notices.map (fun n => n.kind) = [.slotSeeking] := by decide +kernel

/-- A slot that is bound to a service, with a bar and a scrambled candidate, and the reports that are watched. -/
theorem witness_SlotEvaluation_choice :
    let scrambled : Candidate := { cand 12 501 with scrambled := true }
    let s := lineup.setService 0x30 ⟨none, .tv, [], [scrambled, cand 20 77, cand 30 501]⟩
    let x : Slot := { slot7 .seeking none with bar := some ⟨⟨20, 77⟩, 9000⟩ }
    let miss : RankReport := { scored12 with cause := .noLockMiss }
    let aged : RankReport :=
      { scored12 with cause := .aged, reception := some ⟨12, .aged, .fresh, some 640, .stale, some 640, 0⟩ }
    x.binding = some ⟨0x30, 2, 5⟩ ∧ (s.service 0x30).isSome = true
      ∧ s.choice x = some ⟨30, 501⟩ ∧ s.choice { x with scrambledAllowed := true } = some ⟨12, 501⟩
      ∧ s.choice { x with bar := none } = some ⟨20, 77⟩
      ∧ s.challengerFor { x with bar := none } ⟨20, 77⟩ = some (cand 30 501)
      ∧ (onAir.slot 7).state = .onAir ∧ (onAir.slot 7).active = some ⟨12, 501⟩ ∧ miss.carrier = some 12
      ∧ miss.cause = .noLockMiss ∧ { miss with cause := .shelfLoss }.cause = .shelfLoss ∧ aged.cause = .aged
      ∧ aged.reception.map (fun y => (y.stateBefore, y.stateAfter)) = some (.fresh, .stale)
      ∧ { aged with reception := none }.reception = none ∧ scored12.cause = .scored
      ∧ (lineup.slot 7).state ≠ .onAir ∧ { miss with carrier := some 20 }.carrier ≠ some 12
      ∧ (onAir.takeReport miss (onAir.boundSlots 0x30)).2 = [] := by decide +kernel

/-- A report that brings another: the slot it reaches lets go of an orphan, whose service is reported FREED. -/
theorem witness_SlotEvaluation_reports :
    let s := lastOrphan.setSlot 7 { lastOrphan.slot 7 with state := .onAir, pinned := false }
    let r : RankReport := ⟨0x8002, .content, some 14, none, []⟩
    Store.wf s.services = true
      ∧ (s.takeReport r (s.boundSlots r.key)).2.map (fun q => (q.key, q.cause)) = [(0x8002, .freed)] := by decide +kernel

/-- A miss on the carrier of slot 7's active source asks an URGENT QUALITY recheck of it (R139). -/
theorem test_watch_active_miss :
    (onAir.handReports [{ scored12 with cause := .noLockMiss }]).recheckQueue.map
        (fun e => (e.carrier, e.cls, e.urgency, e.reason))
      = [(12, .quality, .urgent, .activeMiss)] := by decide +kernel

theorem witness_SlotEvaluation_timers :
    let hold (e : Stamp) : State := switching.setSlot 7 { switching.slot 7 with holdEnd := some e }
    let bar (e : Stamp) : State := switching.setSlot 7 { switching.slot 7 with bar := some ⟨⟨30, 501⟩, e⟩ }
    ((hold 5000).slot 7).holdEnd = some 5000 ∧ reached (hold 5000).clock 5000 = true
      ∧ ((hold 5001).slot 7).holdEnd = some 5001 ∧ reached (hold 5001).clock 5001 = false
      ∧ ((hold 5000).slot 7).state ≠ .seeking ∧ ((hold 5000).slot 7).state ≠ .onAir
      ∧ ((bar 5000).slot 7).bar = some ⟨⟨30, 501⟩, 5000⟩ ∧ ((bar 5001).slot 7).bar = some ⟨⟨30, 501⟩, 5001⟩ := by
  decide +kernel

/-! ## Witnesses: shelves -/

theorem witness_OrderHandedAndSent :
    let sent := flying switching setOrder .awaitingAccept (some 5250)
    let unsent := flying switching setOrder .awaitingAccept none
    let offline := lineup.setShelf 2 { Shelf.cold with state := .offline }
    (onAir.slot 7).binding = some ⟨0x30, 2, 5⟩ ∧ onAir.carrier 20 = some (fresh carrier12 590)
      ∧ (onAir.shelf 2).state ≠ .offline ∧ (onAir.shelf 2).inFlight = none ∧ (onAir.shelf 2).queue = []
      ∧ (offline.shelf 2).state = .offline ∧ (sent.shelf 2).inFlight ≠ none
      ∧ (unsent.shelf 2).inFlight = some ⟨setOrder, .awaitingAccept, none⟩
      ∧ (sent.shelf 2).inFlight = some ⟨setOrder, .awaitingAccept, some 5250⟩ := by decide +kernel

/-- Shelf S2 ONLINE with an order queued and nothing in flight, as an order that ends leaves it while its slot is
evaluated. -/
def behind : State := onAir.setShelf 2 { Shelf.cold with state := .online, nextTag := 42, queue := [setOrder] }

theorem witness_OrderHandedAndSent_behind :
    (behind.slot 7).binding = some ⟨0x30, 2, 5⟩ ∧ behind.carrier 20 = some (fresh carrier12 590) ∧ behind.takes = true
      ∧ (behind.slot 7).state ≠ .switching ∧ (behind.shelf 2).state ≠ .offline ∧ (behind.shelf 2).inFlight = none
      ∧ (behind.shelf 2).queue = setOrder :: [] := by decide +kernel

/-- An order, a SET or SLOT_CLEAR's CLEAR, joins the end of that queue, whose head goes out (R158). -/
theorem test_order_behind_queue :
    let sends (s : State) : Option Byte × List (Byte × Bool) :=
      ((s.shelf 2).inFlight.map (·.order.tag), (s.shelf 2).queue.map fun o => (o.tag, decide (o.kind = .clear)))
    sends (behind.giveOrder 7 ⟨20, 77⟩ .pin) = (some 41, [(42, false)])
      ∧ sends (after (.slotClear 1 [7]) behind) = (some 41, [(42, true)]) := by decide +kernel

/-- The frame of a SET on the line, until it has been sent (Tables 13-1 and 13-10, R197). -/
theorem test_order_frame :
    let unsent := flying switching setOrder .awaitingAccept none
    let covered : List Byte := [13, 0, 1, 41, 5, 0, 0x90, 0x3B, 7, 0, 0xFF, 0xFF, 8, 0, 7, 77, 0]
    unsent.shelfLine 2 = some (0xA5 :: covered ++ checkBytes covered)
      ∧ (after (.orderSent 2) unsent).shelfLine 2 = none
      ∧ (flying switching clearOrder .awaitingAccept none).shelfLine 2
        = some (0xA5 :: [1, 0, 2, 41, 5] ++ checkBytes [1, 0, 2, 41, 5]) := by decide +kernel

theorem witness_AcceptIsTaken :
    let accepting := flying switching setOrder .awaitingAccept (some 5250)
    let accepted := flying switching setOrder .awaitingDone (some 9000)
    (accepting.shelf 2).inFlight = some ⟨setOrder, .awaitingAccept, some 5250⟩ ∧ setOrder.tag = 41 ∧ setOrder.tag ≠ 40
      ∧ (accepted.shelf 2).inFlight = some ⟨setOrder, .awaitingDone, some 9000⟩ ∧ (onAir.shelf 2).inFlight = none := by
  decide +kernel

theorem witness_ReadyResynchronises :
    (onAir.slot 7).binding = some ⟨0x30, 2, 5⟩ ∧ (onAir.slot 7).state = .onAir ∧ (onAir.slot 7).active = some ⟨12, 501⟩
      ∧ (∀ i, (lineup.slot i).binding = none) := by decide +kernel

/-- An order in flight goes back to the head, with its own tag, and the RESYNC order of slot 8 stands behind it (R165). -/
theorem test_ready_requeues :
    let s := (flying switching setOrder .awaitingDone (some 9000)).setSlot 8
      { slot7 .held (some ⟨12, 501⟩) with binding := some ⟨0x30, 2, 6⟩, pinned := true }
    let t := after (.ready 2) s
    (t.shelf 2).inFlight.map (fun f => (f.order.tag, f.stage)) = some (41, .awaitingAccept)
      ∧ (t.shelf 2).queue.map (fun o => (o.tag, o.output.1)) = [(42, 6)] ∧ (t.shelf 2).nextTag = 43
      ∧ t.notices.map (fun n => (n.kind, n.detail)) = [(.shelfReady, [1, 1])] := by decide +kernel

/-- Section 10.5: with READY taken first, the DONE for the order in flight is late, told to its SWITCHING slot with
ROUTE_LATE alone; the order, sent again, completes with its own DONE (R165, R166). -/
theorem test_ready_then_done :
    let t := after (.done 2 41 5) (after (.ready 2) (flying switching setOrder .awaitingDone (some 9000)))
    let u := after (.done 2 41 5) (after (.orderSent 2) t)
    (t.shelf 2).inFlight.map (fun f => (f.order.tag, f.timerEnd)) = some (41, none) ∧ (t.slot 7).state = .switching
      ∧ t.notices.map (fun n => (n.kind, n.detail)) = [(.shelfReady, [1, 1]), (.routeLate, [0, 41, 0, 0, 0])]
      ∧ (u.shelf 2).inFlight = none ∧ ((u.slot 7).state, (u.slot 7).active) = (.onAir, some ⟨20, 77⟩)
      ∧ (u.notices.map (·.kind)).head? = some .slotFailover := by decide +kernel

/-- An order that READY has put back, its frame on the line and gone out again. -/
theorem witness_DoneIsTaken_put_back :
    let again : Order := { setOrder with putBack := true }
    ((flying switching again .awaitingAccept none).shelf 2).inFlight = some ⟨again, .awaitingAccept, none⟩
      ∧ again.tag = 41 ∧ again.output = 5 ∧ again.putBack = true ∧ again.kind = .set 7 routing
      ∧ (flying switching again .awaitingAccept none).slotOn 2 5 = some 7
      ∧ ((flying switching again .awaitingAccept (some 5250)).shelf 2).inFlight.map (·.timerEnd) = some (some 5250) := by
  decide +kernel

/-- The case of each clause of DONE; 15 is a shelf's last output and 16 is none. -/
theorem witness_DoneIsTaken :
    let f (o : Order) : State := flying switching o .awaitingDone (some 9000)
    let late (x : Slot) : State := lineup.setSlot 7 { x with lastTag := some 19, lastTarget := some ⟨20, 77⟩ }
    let first := lineup.setSlot 7 { slot7 .switching none with target := some ⟨20, 77⟩ }
    ((f setOrder).shelf 2).inFlight = some ⟨setOrder, .awaitingDone, some 9000⟩ ∧ setOrder.tag = 41 ∧ setOrder.output = 5
      ∧ setOrder.kind = .set 7 routing
      ∧ ((f clearOrder).shelf 2).inFlight = some ⟨clearOrder, .awaitingDone, some 9000⟩ ∧ clearOrder.kind = .clear
      ∧ (first.slot 7).target = some ⟨20, 77⟩ ∧ (first.slot 7).active = none ∧ (first.slot 7).pinned = false
      ∧ (lineup.shelf 2).inFlight = none ∧ lineup.slotOn 2 15 = none ∧ (lineup.shelf 2).lastOrdering[15] = none
      ∧ switching.slotOn 2 5 = some 7 ∧ (switching.slot 7).state = .switching
      ∧ (late (slot7 .fault none)).slotOn 2 5 = some 7 ∧ ((late (slot7 .fault none)).slot 7).state ≠ .switching
      ∧ ((late (slot7 .fault none)).slot 7).state ≠ .vacant ∧ ((late (slot7 .fault none)).slot 7).lastTag = some 19
      ∧ ((late (slot7 .fault none)).slot 7).lastTarget = some ⟨20, 77⟩ ∧ ((late (slot7 .fault none)).slot 7).active = none
      ∧ ((late (slot7 .fault none)).slot 7).pinned = false
      ∧ ((late { slot7 .held (some ⟨20, 77⟩) with pinned := true }).slot 7).active = some ⟨20, 77⟩
      ∧ ((late { slot7 .held (some ⟨20, 77⟩) with pinned := true }).slot 7).pinned = true
      ∧ 16 ≤ (16 : Byte).toNat := by decide +kernel

/-- A DONE that replaces an active source: one that is kept, one that is an orphan and is freed; and a late DONE to a
VACANT slot that was the last to order on the output (R115, R143, R166). -/
theorem witness_DoneIsTaken_replaces :
    let gone : Candidate := { cand 12 501 with absent := true, orphan := true }
    let orphan := switching.setService 0x30 ⟨none, .tv, [], [gone, cand 20 77, cand 30 501]⟩
    let freed := orphan.setSlot 7 { switching.slot 7 with active := some ⟨20, 77⟩, target := none, state := .onAir }
    let vacant := lineup.setShelf 2
      { Shelf.cold with state := .online, lastOrdering := (Vector.replicate 16 none).set 5 (some 7) }
    let late := lineup.setSlot 7
      { slot7 .onAir (some ⟨12, 501⟩) with lastTag := some 19, lastTarget := some ⟨20, 77⟩ }
    ((switching.slot 7).target = some ⟨20, 77⟩ ∧ (switching.slot 7).active = some ⟨12, 501⟩
      ∧ (switching.slot 7).pinned = false ∧ switching.candidate? ⟨12, 501⟩ = some (0x30, cand 12 501))
    ∧ ((orphan.slot 7).target = some ⟨20, 77⟩ ∧ (orphan.slot 7).active = some ⟨12, 501⟩
      ∧ freed.candidate? ⟨12, 501⟩ = some (0x30, gone) ∧ freed.referred ⟨12, 501⟩ = false)
    ∧ (vacant.slotOn 2 5 = none ∧ (vacant.shelf 2).lastOrdering[5] = some 7 ∧ (vacant.slot 7).state = .vacant
      ∧ (vacant.shelf 2).inFlight = none)
    ∧ (late.slotOn 2 5 = some 7 ∧ (late.slot 7).state ≠ .switching ∧ (late.slot 7).state ≠ .vacant
      ∧ (late.slot 7).lastTag = some 19 ∧ (late.slot 7).lastTarget = some ⟨20, 77⟩
      ∧ (late.slot 7).active = some ⟨12, 501⟩) := by decide +kernel

/-- A DONE after a failover posts SLOT_FAILOVER with no failed source, and an orphan let go of is freed (R115, R141). -/
theorem test_done_lets_go :
    let gone : Candidate := { cand 12 501 with absent := true, orphan := true }
    let s := switching.setService 0x30 ⟨none, .tv, [], [gone, cand 20 77, cand 30 501]⟩
    let t := after (.done 2 41 5) (flying s setOrder .awaitingDone (some 9000))
    t.candidate? ⟨12, 501⟩ = none ∧ (t.slot 7).active = some ⟨20, 77⟩
      ∧ t.notices.map (fun n => (n.kind, n.detail))
        = [(.slotFailover, [0, 0, 0, 0, 0xFF, 20, 77, 0, 2])] := by decide +kernel

/-- A late DONE to a VACANT last ordering slot is told and changes no slot (R166). -/
theorem test_late_done_vacant :
    let s := lineup.setShelf 2
      { Shelf.cold with state := .online, lastOrdering := (Vector.replicate 16 none).set 5 (some 7) }
    let t := after (.done 2 19 5) s
    t.slots = s.slots ∧ t.notices.map (fun n => (n.kind, n.object, n.detail)) = [(.routeLate, 7, [0, 19, 0, 0, 0])] := by
  decide +kernel

theorem witness_RejectAndTimeouts :
    let f (o : Order) (g : Stage) (e : Stamp) (n : Nat) : State :=
      switching.setShelf 2 { Shelf.cold with state := .online, timeouts := n, inFlight := some ⟨o, g, some e⟩ }
    let pinned := switching.setSlot 7 { switching.slot 7 with pinned := true }
    (1 : Fin 16).1 ≠ 0 ∧ (15 : Fin 16).1 ≠ 0
      ∧ ((f setOrder .awaitingAccept 5000 1).shelf 2).inFlight = some ⟨setOrder, .awaitingAccept, some 5000⟩
      ∧ ((f clearOrder .awaitingDone 5000 2).shelf 2).inFlight = some ⟨clearOrder, .awaitingDone, some 5000⟩
      ∧ setOrder.tag = 41 ∧ setOrder.output = 5 ∧ setOrder.kind = .set 7 routing ∧ clearOrder.kind = .clear
      ∧ (switching.shelf 2).inFlight = none
      ∧ reached switching.clock 5000 = true ∧ reached switching.clock 5001 = false
      ∧ ((f setOrder .awaitingAccept 5000 1).shelf 2).timeouts < 2 ∧ 2 ≤ ((f setOrder .awaitingDone 5000 2).shelf 2).timeouts
      ∧ (switching.slot 7).target = some ⟨20, 77⟩ ∧ switching.candidate? ⟨20, 77⟩ = some (0x30, cand 20 77)
      ∧ (cand 20 77).orphan = false
      ∧ (switching.slot 7).failures = 0 ∧ (switching.slot 7).pinned = false
      ∧ (pinned.slot 7).failures = 0 ∧ (pinned.slot 7).pinned = true ∧ (pinned.slot 7).active ≠ none
      ∧ 1 ≤ { pinned.slot 7 with failures := 1 }.failures := by decide +kernel

/-- A route that fails, at the second failure, to a target that is an orphan: it is freed with its bar, and reported; and
REJECTs of reasons 0 and 16 (R115, R142, R154). -/
theorem test_reject_lets_go :
    let gone : Candidate := { cand 20 77 with absent := true, orphan := true }
    let s := (switching.setSlot 7 { switching.slot 7 with failures := 1 }).setService 0x30
      ⟨none, .tv, [], [cand 12 501, gone, cand 30 501]⟩
    let t := s.routeFails 7 (.reject 3)
    (s.slot 7).target = some ⟨20, 77⟩ ∧ 1 ≤ (s.slot 7).failures ∧ t.candidate? ⟨20, 77⟩ = none
      ∧ ((t.slot 7).state, (t.slot 7).bar, (t.slot 7).failures) = (.fault, none, 2)
      ∧ (∀ w ∈ [(0 : Byte), 16], (w = 0 ∨ 15 < w.toNat)
        ∧ after (.reject 2 41 5 w) (flying switching setOrder .awaitingDone (some 9000))
          = flying switching setOrder .awaitingDone (some 9000)) := by decide +kernel

/-! ## Witnesses: reception, reads and notices -/

theorem witness_MissesAreCounted :
    ((hand (noLock 12) true plant).path 1).outbox = [⟨noLock 12, true⟩] ∧ (noLock 12).cls = some .quality
      ∧ (noLock 12).outcome = .noLock ∧ (hand (noLock 12) true plant).carrier 12 = some carrier12
      ∧ ((hand (noLock 12) false plant).path 1).outbox = [⟨noLock 12, false⟩]
      ∧ (hand (noLock 13) true plant).carrier 13 = none
      ∧ lineup.slotOn 2 5 = none ∧ onAir.slotOn 2 5 = some 7 ∧ (onAir.slot 7).active = some ⟨12, 501⟩
      ∧ onAir.carrier 12 = some (fresh carrier12 640)
      ∧ (lineup.setSlot 7 (slot7 .seeking none)).slotOn 2 5 = some 7 := by decide +kernel

/-- The third miss makes carrier 20 LOST, with CARRIER_LOST of its count, its standing of 590 and cause NO_LOCK (R98). -/
theorem test_miss_loses_carrier :
    let c := fresh carrier12 590
    let s := hand (noLock 20) true
      (lineup.setCarrier 20 { c with reception := { c.reception with misses := 2 } })
    let t := after (.noLockMiss 1) s
    (t.carrier 20).map (fun x => (x.reception.state, x.reception.misses)) = some (.lost, 3)
      ∧ t.notices.map (fun n => (n.kind, n.object, n.detail)) = [(.carrierLost, 20, [3, 78, 2, 0])] := by decide +kernel

/-- A QUALITY result of 4 or 8 blocks. -/
def sample (o : MeasOutcome) : Result :=
  { noLock 12 with
    outcome := o, counted := 4, locked := 1, levelSum := 480, levelAvg := some 120, merSum := 200
    observation := some 7 }

theorem witness_ScoredResultMovesStanding :
    let s (o : MeasOutcome) (b : Bool) : State := hand (sample o) b plant
    ((s .complete true).path 1).outbox = [⟨sample .complete, true⟩] ∧ (sample .complete).cls = some .quality
      ∧ (sample .complete).outcome = .complete ∧ (s .complete true).carrier 12 = some carrier12
      ∧ ((s .partialWindow true).path 1).outbox = [⟨sample .partialWindow, true⟩]
      ∧ (sample .partialWindow).outcome = .partialWindow
      ∧ ((s .complete false).path 1).outbox = [⟨sample .complete, false⟩] := by decide +kernel

/-- Version 7 is seen on carrier 12, KNOWN in version 6: CARRIER_CHANGED of reason VERSION and a ROUTINE recheck (R67). -/
theorem test_version_watch :
    let c : Carrier := { carrier12 with content := ⟨.known, some ⟨1, 2⟩, some 6, false⟩ }
    let t := after (.scoredResult 1) (hand (sample .complete) true (plant.setCarrier 12 c))
    (t.carrier 12).map (fun x => (x.content.state, x.content.version)) = some (.changed, some 6)
      ∧ t.notices.map (fun n => (n.kind, n.object, n.detail)) = [(.carrierChanged, 12, [0])]
      ∧ t.recheckQueue.map (fun e => (e.carrier, e.cls, e.urgency, e.reason))
        = [(12, .content, .routine, .versionChange)] := by decide +kernel

/-- A reception report carries the state and the standing on both sides and the misses after, and a ranking report the
list with its groups (R103, R111). -/
theorem test_reports_carry_their_fields :
    let s := (lineup.setCarrier 12 (fresh carrier12 640)).setCarrier 20
      { carrier12 with reception := { carrier12.reception with state := .lost, standing := some 590, misses := 3 } }
    let r : ReceptionReport := ⟨20, .noLockMiss, .fresh, some 590, .lost, some 590, 3⟩
    s.rankReport 0x30 .noLockMiss (some 20) (some r)
      = ⟨0x30, .noLockMiss, some 20, some r, [(cand 12 501, .a), (cand 30 501, .a), (cand 20 77, .c)]⟩ := by decide +kernel

theorem witness_LevelResultAndAgeing :
    let r : Result := { sample .complete with cls := some .level, merSum := 0, observation := none }
    let aged (e : Stamp) : State :=
      let c := fresh carrier12 640
      plant.setCarrier 12 { c with reception := { c.reception with staleEnd := some e } }
    ((hand r true plant).path 1).outbox = [⟨r, true⟩] ∧ r.cls = some .level ∧ r.outcome = .complete
      ∧ (hand r true plant).carrier 12 = some carrier12 ∧ r.levelAvg = some 120
      ∧ ((hand r false plant).path 1).outbox = [⟨r, false⟩]
      ∧ ((aged 5000).carrier 12).map (fun x => (x.reception.state, x.reception.staleEnd)) = some (.fresh, some 5000)
      ∧ reached (aged 5000).clock 5000 = true ∧ reached (aged 5001).clock 5001 = false
      ∧ plant.carrier 13 = none ∧ (carrier12.reception.state ≠ .fresh) := by decide +kernel

/-- The ageing of a carrier under an active source is reported, and the slot asks an URGENT recheck of it (R101, R139). -/
theorem test_ageing_is_reported :
    let c := fresh carrier12 640
    let s := onAir.setCarrier 12 { c with reception := { c.reception with staleEnd := some 5000 } }
    let t := after (.staleTimerEnd 12) { s with survey := .paused }
    (t.carrier 12).map (·.reception.state) = some .stale
      ∧ t.recheckQueue.map (fun e => (e.carrier, e.urgency, e.reason)) = [(12, .urgent, .activeStale)] := by decide +kernel

theorem witness_TableReads :
    lineup.takes = true ∧ (1 : Byte) ≠ 0 ∧ (255 : Byte) ≠ 0
      ∧ (5 : Byte).toNat < 6 ∧ 6 ≤ (6 : Byte).toNat ∧ (7 : Byte).toNat < 8 ∧ 8 ≤ (8 : Byte).toNat
      ∧ (31 : Byte).toNat < 32 ∧ 32 ≤ (32 : Byte).toNat ∧ (63 : Byte).toNat < 64 ∧ 64 ≤ (64 : Byte).toNat := by
  decide +kernel

/-- Records of used and unused carriers, of feeds, services, candidates and places that the offsets are stated for. -/
theorem witness_TableReads_records :
    let named := lineup.setService 0x30 ⟨none, .tv, List.replicate 20 65, [cand 12 501, cand 20 77, cand 30 501]⟩
    let s : State := { named with bindings := [⟨pair, 0x30⟩] }
    let pairs := (s.bindings.filter fun b => decide (b.key = 0x30)).map (·.pair)
    s.carrier 13 = none ∧ s.carrier 12 = some (fresh carrier12 640) ∧ (s.feed 5).waiting.length ≤ 8
      ∧ (List.replicate 20 (65 : Byte)).length ≤ 20 ∧ pairs[0]? = some pair
      ∧ s.service 0x30 = some ⟨none, .tv, List.replicate 20 65, [cand 12 501, cand 20 77, cand 30 501]⟩
      ∧ (s.rankOrder [cand 12 501, cand 20 77, cand 30 501])[2]? = some (cand 30 501) := by decide +kernel

/-- The slot record of Table 13-7: presence bits 0, 5 and 6, and the fields at 9, 30, 32 and 33. -/
theorem test_slot_record :
    let s := onAir.setSlot 7 { onAir.slot 7 with lastTag := some 41, lastTarget := some ⟨20, 77⟩ }
    let r := s.slotRecord 7
    r.length = 36 ∧ bytesAt r 0 5 = [7, 0x30, 0, 2, 5] ∧ bytesAt r 8 4 = [0x61, 12, 0xF5, 1]
      ∧ bytesAt r 32 4 = [41, 20, 77, 0] := by decide +kernel

/-- A Recheck place that is empty, and one that holds an entry (Table 13-7). -/
theorem test_recheck_record :
    bytesAt (plant.listsRecord 31) 0 6 = [31, 0, 0, 0xFF, 0xFF, 0xFF]
      ∧ bytesAt ((queueOf .urgent).listsRecord 8) 0 10 = [8, 1, 12, 0, 0, 2, 0xA0, 0x0F, 0, 0] := by decide +kernel

/-- The status record of Table 13-8: three urgent and 27 routine notices, the tables' counts, shelf S2 and the clock. -/
theorem test_status_record :
    let s : State := { flying switching clearOrder .awaitingDone (some 9000) with notices := pressed.notices, summary := 0x80 }
    let r := s.statusRecord
    r.length = 56 ∧ bytesAt r 0 11 = [0x80, 0, 0, 0, 0, 3, 27, 0, 0, 1, 0]
      ∧ bytesAt r 11 9 = [3, 0, 1, 0, 0, 0, 3, 0, 1] ∧ bytesAt r 36 8 = [1, 0, 42, 0, 41, 1, 5, 1]
      ∧ bytesAt r 52 4 = [0x88, 0x13, 0, 0] := by decide +kernel

theorem witness_NoticeFetchTakesNotices :
    let marked : State := { pressed with notices := pressed.notices.take 15, overflowMarker := true }
    pressed.takes = true ∧ pressed.noticesOk = true ∧ pressed.overflowMarker = false
      ∧ 1 ≤ (1 : Byte).toNat ∧ (16 : Byte).toNat ≤ 16 ∧ 16 < (17 : Byte).toNat
      ∧ marked.takes = true ∧ marked.overflowMarker = true ∧ marked.notices.length < (16 : Byte).toNat
      ∧ (15 : Byte).toNat ≤ marked.notices.length := by decide +kernel

/-- Notices with no detail and with the longest (Table 13-6). -/
theorem witness_NoticeFetchTakesNotices_record :
    (notice .feedFault 2).detail.length ≤ 16
      ∧ (⟨.probeResult, 7, 255, 400100, List.replicate 16 1⟩ : Notice).detail.length ≤ 16 := by decide

/-- The record of a notice, and the first, the ninth and the last parameters of the set (Tables 13-5 and 13-6). -/
theorem test_notice_and_parameter_bytes :
    (⟨.surveyState, 0, 1, 0x01020304, [1, 2]⟩ : Notice).bytes
        = [19, 1, 0, 0, 1, 4, 3, 2, 1, 2, 1, 2] ++ List.replicate 14 0
      ∧ State.reset.params.bytes.length = 64 ∧ bytesAt State.reset.params.bytes 0 6 = [60, 0, 40, 0, 80, 0]
      ∧ bytesAt State.reset.params.bytes 16 2 = [0xB8, 0x0B] := by decide +kernel

theorem witness_NoticeMaskSetsMask :
    base.takes = true ∧ 19 < (20 : Byte).toNat ∧ 1 < (2 : Byte).toNat := by decide +kernel

/-- Each case of R188 at its bounds. -/
theorem witness_EventsArePlaced :
    let bit (k : NoticeKind) : BitVec 32 := BitVec.ofNat 32 (2 ^ k.code)
    let masked : State := { base with masks := 0x100 }
    let routines (s : State) : Nat := (s.notices.filter fun m => decide (m.kind.urgency = .routine)).length
    let allUrgent : State := { base with notices := (List.range 32).map (notice .slotFault) }
    masked.masks &&& bit .listDone ≠ 0 ∧ pressed.masks &&& bit .carrierLost = 0
      ∧ (∃ m ∈ pressed.notices, m.kind = .feedFault ∧ m.object = 2)
      ∧ (∀ m ∈ pressed.notices, ¬ (m.kind = .carrierLost ∧ m.object = 42))
      ∧ NoticeKind.carrierLost.urgency = .routine ∧ routines pressed < 28 ∧ pressed.notices.length < 32
      ∧ 28 ≤ routines crowded ∧ (∀ m ∈ crowded.notices, ¬ (m.kind = .carrierLost ∧ m.object = 42))
      ∧ NoticeKind.slotFault.urgency = .urgent ∧ 32 ≤ crowded.notices.length
      ∧ (∃ m ∈ crowded.notices, m.kind.urgency = .routine)
      ∧ 32 ≤ allUrgent.notices.length ∧ (∀ m ∈ allUrgent.notices, m.kind.urgency = .urgent)
      ∧ (∀ m ∈ allUrgent.notices, ¬ (m.kind = .slotFault ∧ m.object = 40)) := by decide +kernel

end Sys2Proof.Tests
end

/-! SUPPORT. The operands of the path requests, the checks of a request one after the other, and a request that is taken
(R182, R183). -/
namespace Sys2Proof.ReceivePaths
open Sys2Proof.Machine

/-! ## Operands of a request (R183) -/

theorem toNat_byteOf {n : Nat} (h : n < 256) : (byteOf n).toNat = n := Nat.mod_eq_of_lt h

theorem fin?_eq_none {n x : Nat} (h : n ≤ x) : fin? n x = none := dif_neg (Nat.not_lt.mpr h)

theorem fin?_of_lt {n x : Nat} (h : x < n) : fin? n x = some ⟨x, h⟩ := dif_pos h

theorem fin?_byteOf (p : Fin 8) : fin? 8 (byteOf p.1).toNat = some p := by
  rw [toNat_byteOf (Nat.lt_trans p.2 (by decide))]
  exact fin?_of_lt p.2

theorem pathMode_ofCode_code (m : PathMode) : PathMode.ofCode (byteOf m.code).toNat = some m := by
  cases m <;> rfl

theorem pathMode_ofCode_eq_none {n : Nat} (h : 2 < n) : PathMode.ofCode n = none := by
  match n, h with
  | _ + 3, _ => rfl

theorem measClass_ofCode_code (k : MeasClass) : MeasClass.ofCode (byteOf k.code).toNat = some k := by
  cases k <;> rfl

theorem measClass_ofCode_eq_none {n : Nat} (h : 2 < n) : MeasClass.ofCode n = none := by
  match n, h with
  | _ + 3, _ => rfl

theorem measClass_ofCode_of_le {n : Nat} (h : n ≤ 2) : ∃ k, MeasClass.ofCode n = some k := by
  match n, h with
  | 0, _ => exact ⟨_, rfl⟩
  | 1, _ => exact ⟨_, rfl⟩
  | 2, _ => exact ⟨_, rfl⟩

theorem window?_byteOf {n : Nat} (h : n = 4 ∨ n = 8) : window? (byteOf n) = some n := by
  rcases h with rfl | rfl <;> rfl

theorem window?_of_mem {w : Byte} (h : w = 4 ∨ w = 8) : ∃ n, window? w = some n := by
  rcases h with rfl | rfl <;> exact ⟨_, rfl⟩

theorem window?_eq_none {w : Byte} (h4 : w ≠ 4) (h8 : w ≠ 8) : window? w = none := by
  have n4 : w.toNat ≠ 4 := fun h => h4 (BitVec.eq_of_toNat_eq h)
  have n8 : w.toNat ≠ 8 := fun h => h8 (BitVec.eq_of_toNat_eq h)
  simp [window?, n4, n8]

theorem upTo?_of_le {top n : Nat} (h : n ≤ top) : upTo? top n = some n := if_pos h

theorem upTo?_eq_none {top n : Nat} (h : top < n) : upTo? top n = none := if_neg (Nat.not_le.mpr h)

theorem flag?_flagByte (b : Bool) : flag? (flagByte b) = some b := by cases b <;> rfl

theorem flag?_eq_none {b : Byte} (h : 1 < b.toNat) : flag? b = none := by
  have n0 : b ≠ 0 := by rintro rfl; exact absurd h (by decide)
  have n1 : b ≠ 1 := by rintro rfl; exact absurd h (by decide)
  rw [flag?, if_neg n0, if_neg n1]

/-! ## The checks of a request, one after the other -/

theorem field_some_bind {α β : Type} (n : Nat) (x : α) (next : α → Checked β) :
    (field n (some x) >>= next) = next x := rfl

theorem field_none_bind {α β : Type} (n : Nat) (next : α → Checked β) :
    (field n none >>= next) = .error (Answer.range n) := rfl

/-! ## A request that is taken (R182) -/

/-- A request that its check refuses changes nothing and is answered with the refusal. -/
theorem request_refused {α : Type} {s : State} {kind tag : Byte} {body : List Byte}
    {check : List Byte → State → Checked α} {act : α → State → State} {a : Answer} (ht : s.takes = true)
    (hl : body.length ≤ 1024) (hk : handlerOf kind = some fun body s => carryOutOk (check body s) act s)
    (hc : check body s.hunts = .error a) : s.request kind tag body = s.hunts.owe (replyKind kind) tag a := by
  rw [State.request_taken ht hl hk, hc]; rfl

/-- A request that passes its check is carried out and answered OK. -/
theorem request_carriedOut {α : Type} {s : State} {kind tag : Byte} {body : List Byte}
    {check : List Byte → State → Checked α} {act : α → State → State} {x : α} (ht : s.takes = true)
    (hl : body.length ≤ 1024) (hk : handlerOf kind = some fun body s => carryOutOk (check body s) act s)
    (hc : check body s.hunts = .ok x) :
    s.request kind tag body = (act x s.hunts).owe (replyKind kind) tag ⟨.ok, []⟩ := by
  rw [State.request_taken ht hl hk, hc]; rfl

end Sys2Proof.ReceivePaths

/-! PROOFS. PATH_MODE and PROBE_MEASURE (O29, O31): their checks in the order of the fields, and what the path does. -/
namespace Sys2Proof.ReceivePaths
open Sys2Proof.Machine

/-! ## PATH_MODE -/

theorem exec_pathMode_refused {s : State} {tag b w : Byte} {a : Answer} (ht : s.takes = true)
    (hc : checkPathMode [b, w] s.hunts = .error a) :
    exec (.pathMode tag [b, w]) s = .next (s.hunts.owe 0xA0 tag a) :=
  congrArg _ (request_refused (kind := 0x20) ht (by simp) rfl hc)

theorem exec_pathMode_ok {s : State} {tag b w : Byte} {p : Fin 8} {m : PathMode} (ht : s.takes = true)
    (hc : checkPathMode [b, w] s.hunts = .ok (p, m)) :
    exec (.pathMode tag [b, w]) s = .next ((s.hunts.askMode p m).owe 0xA0 tag ⟨.ok, []⟩) :=
  congrArg _ (request_carriedOut (kind := 0x20) ht (by simp) rfl hc)

theorem checkPathMode_path_range {b : Byte} (w : Byte) (s : State) (h : 8 ≤ b.toNat) :
    checkPathMode [b, w] s = .error (Answer.range 1) := by
  simp only [checkPathMode, fin?_eq_none h, field_none_bind]

theorem checkPathMode_mode_range {b w : Byte} (s : State) (hb : b.toNat < 8) (hw : 2 < w.toNat) :
    checkPathMode [b, w] s = .error (Answer.range 2) := by
  simp only [checkPathMode, fin?_of_lt hb, pathMode_ofCode_eq_none hw, field_some_bind, field_none_bind]

/-- With both fields in range, a pending mode is the one refusal (R32). -/
theorem checkPathMode_inRange (p : Fin 8) (m : PathMode) (s : State) :
    checkPathMode [byteOf p.1, byteOf m.code] s
      = if (s.path p).pendingMode = none then .ok (p, m) else .error (Answer.refuse .busy) := by
  simp only [checkPathMode, fin?_byteOf, pathMode_ofCode_code, field_some_bind]
  cases (s.path p).pendingMode <;> rfl

/-- A mode that takes effect on a path without a pending one: its list is joined, or left (R33, R75). -/
theorem setMode_eq {s : State} {p : Fin 8} (m : PathMode) (h : (s.path p).pendingMode = none) :
    s.setMode p m
      = if m = .list then (s.setPath p { s.path p with mode := m }).listJoined p
        else (s.setPath p { s.path p with mode := m }).listLeft p := by
  have record : ({ s.path p with mode := m, pendingMode := none } : Path) = { s.path p with mode := m } := by rw [← h]
  unfold State.setMode
  rw [record]
  cases m <;> simp [State.joinList_eq, State.leaveList_eq]

/-- A mode that is left pending: a list that drove the path is told first, and the path takes RELEASE (R32, R75). -/
theorem pendMode_eq (s : State) (p : Fin 8) (m : PathMode) :
    s.pendMode p m
      = (if (s.path p).mode = .list then (s.setPath p { s.path p with pendingMode := some m }).listLeft p
          else s.setPath p { s.path p with pendingMode := some m }).takeRelease p := by
  simp only [State.pendMode, State.leaveList_eq]

theorem askMode_same {s : State} {p : Fin 8} {m : PathMode} (h : (s.path p).mode = m) : s.askMode p m = s := if_pos h

theorem askMode_parked {s : State} {p : Fin 8} {m : PathMode} (h : (s.path p).mode ≠ m)
    (hs : (s.path p).state = .parked) : s.askMode p m = (s.setMode p m).runEngine := by
  simp [State.askMode, h, hs]

theorem askMode_busy {s : State} {p : Fin 8} {m : PathMode} (h : (s.path p).mode ≠ m)
    (hs : (s.path p).state ≠ .parked) : s.askMode p m = (s.pendMode p m).runEngine := by
  rw [State.askMode, if_neg h]
  split
  · exact absurd ‹_› hs
  · rfl

/-- Settles O29: the checks by the fields in turn, and PATH_MODE carried out by the mode and the state of the path. -/
theorem pathModeChanges : Obligations.PathModeChanges := by
  unfold Obligations.PathModeChanges
  refine ⟨fun s tag b w ht => ⟨fun hb => ?_, fun hb hw => ?_⟩, fun s tag p m ht => ?_⟩
  · exact exec_pathMode_refused ht (checkPathMode_path_range w _ hb)
  · exact exec_pathMode_refused ht (checkPathMode_mode_range _ hb hw)
  have check := checkPathMode_inRange p m s.hunts
  rw [State.hunts_path] at check
  refine ⟨fun hpend => ?_, fun hpend hmode => ?_, fun hpend hmode hstate => ?_, fun hpend hmode hstate => ?_⟩
  · exact exec_pathMode_refused ht (check.trans (if_neg hpend))
  all_goals rw [exec_pathMode_ok ht (check.trans (if_pos hpend))]
  · rw [askMode_same (s := s.hunts) hmode]
  · rw [askMode_parked (s := s.hunts) hmode hstate, setMode_eq (s := s.hunts) m hpend]; rfl
  · rw [askMode_busy (s := s.hunts) hmode hstate, pendMode_eq]; rfl

/-! ## PROBE_MEASURE -/

theorem exec_probeMeasure_refused {s : State} {tag b k w d r : Byte} {a : Answer} (ht : s.takes = true)
    (hc : checkProbeMeasure [b, k, w, d, r] s.hunts = .error a) :
    exec (.probeMeasure tag [b, k, w, d, r]) s = .next (s.hunts.owe 0xA2 tag a) :=
  congrArg _ (request_refused (kind := 0x22) ht (by simp) rfl hc)

theorem exec_probeMeasure_ok {s : State} {tag b k w d r : Byte} {p : Fin 8} {m : Meas} (ht : s.takes = true)
    (hc : checkProbeMeasure [b, k, w, d, r] s.hunts = .ok (p, m)) :
    exec (.probeMeasure tag [b, k, w, d, r]) s = .next ((s.hunts.takeMeasure p m).owe 0xA2 tag ⟨.ok, []⟩) :=
  congrArg _ (request_carriedOut (kind := 0x22) ht (by simp) rfl hc)

theorem checkProbeMeasure_path_range (s : State) {b k w d r : Byte} (h : 8 ≤ b.toNat) :
    checkProbeMeasure [b, k, w, d, r] s = .error (Answer.range 1) := by
  simp only [checkProbeMeasure, field_none_bind, fin?_eq_none h]

theorem checkProbeMeasure_class_range (s : State) {b k w d r : Byte} (hb : b.toNat < 8) (hk : 2 < k.toNat) :
    checkProbeMeasure [b, k, w, d, r] s = .error (Answer.range 2) := by
  simp only [checkProbeMeasure, field_some_bind, field_none_bind, fin?_of_lt hb, measClass_ofCode_eq_none hk]

theorem checkProbeMeasure_window_range (s : State) {b k w d r : Byte} (hb : b.toNat < 8) (hk : k.toNat ≤ 2)
    (h4 : w ≠ 4) (h8 : w ≠ 8) :
    checkProbeMeasure [b, k, w, d, r] s = .error (Answer.range 3) := by
  obtain ⟨cls, hcls⟩ := measClass_ofCode_of_le hk
  simp only [checkProbeMeasure, field_some_bind, field_none_bind, fin?_of_lt hb, hcls, window?_eq_none h4 h8]

theorem checkProbeMeasure_leadIn_range (s : State) {b k w d r : Byte} (hb : b.toNat < 8) (hk : k.toNat ≤ 2)
    (hw : w = 4 ∨ w = 8) (hd : 3 < d.toNat) :
    checkProbeMeasure [b, k, w, d, r] s = .error (Answer.range 4) := by
  obtain ⟨cls, hcls⟩ := measClass_ofCode_of_le hk
  obtain ⟨n, hn⟩ := window?_of_mem hw
  simp only [checkProbeMeasure, field_some_bind, field_none_bind, fin?_of_lt hb, hcls, hn, upTo?_eq_none hd]

theorem checkProbeMeasure_release_range (s : State) {b k w d r : Byte} (hb : b.toNat < 8) (hk : k.toNat ≤ 2)
    (hw : w = 4 ∨ w = 8) (hd : d.toNat ≤ 3) (hr : 1 < r.toNat) :
    checkProbeMeasure [b, k, w, d, r] s = .error (Answer.range 5) := by
  obtain ⟨cls, hcls⟩ := measClass_ofCode_of_le hk
  obtain ⟨n, hn⟩ := window?_of_mem hw
  simp only [checkProbeMeasure, field_some_bind, field_none_bind, fin?_of_lt hb, hcls, hn, upTo?_of_le hd,
    flag?_eq_none hr]

/-- The body of a PROBE_MEASURE (Table 13-4). -/
def measureBody (p : Fin 8) (m : Meas) : List Byte :=
  [byteOf p.1, byteOf m.cls.code, byteOf m.window, byteOf m.leadIn, flagByte m.release]

/-- With every field in range, the path's mode is tested, and then its state (R39, R40, R52). -/
theorem checkProbeMeasure_inRange (p : Fin 8) {m : Meas} (s : State) (hw : m.window = 4 ∨ m.window = 8)
    (hd : m.leadIn ≤ 3) :
    checkProbeMeasure (measureBody p m) s
      = if (s.path p).probed = true then
          match (s.path p).measureRefusal with
          | none => .ok (p, { m with requester := .probe })
          | some code => .error (Answer.refuse code)
        else .error (Answer.refuse .wrongState) := by
  simp only [checkProbeMeasure, measureBody, fin?_byteOf, measClass_ofCode_code, window?_byteOf hw,
    toNat_byteOf (Nat.lt_of_le_of_lt hd (by decide)), upTo?_of_le hd, flag?_flagByte, field_some_bind]
  cases (s.path p).probed with
  | false => rfl
  | true => cases (s.path p).measureRefusal <;> rfl

/-! What a path answers to a MEASURE by its state (R39, R40), and what it does with one it takes (R39, R41). -/

theorem measureRefusal_untuned {x : Path} (h : x.state = .parked ∨ x.state = .recovering ∨ x.state = .releasing) :
    x.measureRefusal = some .notTuned := by
  rcases h with h | h | h <;> rw [Path.measureRefusal, h]

theorem measureRefusal_tuning {x : Path} (h : x.state = .waitFeed ∨ x.state = .settling ∨ x.state = .locking) :
    x.measureRefusal = if x.posted = none then none else some .busy := by
  have posted : x.measureRefusal = if x.posted.isSome then some .busy else none := by
    rcases h with h | h | h <;> rw [Path.measureRefusal, h]
  rw [posted]
  cases x.posted <;> rfl

theorem measureRefusal_locked {x : Path} (h : x.state = .locked) : x.measureRefusal = none := by
  rw [Path.measureRefusal, h]

theorem measureRefusal_measuring {x : Path} {w : Window} (h : x.state = .measuring) (hw : x.window = some w) :
    x.measureRefusal = if w.meas.release = true then some .notTuned else if x.held = none then none else some .busy := by
  rw [Path.measureRefusal, h, hw]
  cases x.held <;> rfl

theorem takeMeasure_tuning {s : State} {p : Fin 8} (m : Meas)
    (h : (s.path p).state = .waitFeed ∨ (s.path p).state = .settling ∨ (s.path p).state = .locking) :
    s.takeMeasure p m = s.setPath p { s.path p with posted := some m } := by
  rcases h with h | h | h <;> simp only [State.takeMeasure, h]

theorem takeMeasure_locked {s : State} {p : Fin 8} (m : Meas) (h : (s.path p).state = .locked) :
    s.takeMeasure p m = s.startWindow p m m.leadIn s.clock := by
  simp only [State.takeMeasure, h]

theorem takeMeasure_measuring {s : State} {p : Fin 8} {w : Window} (m : Meas) (h : (s.path p).state = .measuring)
    (hw : (s.path p).window = some w) :
    s.takeMeasure p m
      = s.setPath p { s.path p with held := some m, window := some { w with cut := w.cutBy m } } := by
  simp only [State.takeMeasure, h, hw]

/-- A window that keeps its carrier is cut at the half point by the class, the window length and the blocks
counted (R41). -/
theorem cutBy_of_stays {w : Window} (m : Meas) (h : w.meas.release = false) :
    w.cutBy m
      = decide (m.cls = w.meas.cls ∧ w.meas.cls ≠ .content ∧ w.meas.window = 8 ∧ w.counted < 4) := by
  simp [Window.cutBy, h]

/-- A PROBE_MEASURE with its fields in range, on a path that takes probe requests: the state's refusal, or the
MEASURE. -/
theorem exec_probeMeasure_manual {s : State} {p : Fin 8} {m : Meas} (tag : Byte) (ht : s.takes = true)
    (hw : m.window = 4 ∨ m.window = 8) (hd : m.leadIn ≤ 3) (hq : m.requester = .probe)
    (hmode : (s.path p).mode = .manual) (hpend : (s.path p).pendingMode = none) :
    exec (.probeMeasure tag (measureBody p m)) s
      = .next (match (s.path p).measureRefusal with
        | some code => s.hunts.owe 0xA2 tag ⟨code, []⟩
        | none => (s.hunts.takeMeasure p m).owe 0xA2 tag ⟨.ok, []⟩) := by
  have check := checkProbeMeasure_inRange p s.hunts hw hd
  have probed : (s.path p).probed = true := decide_eq_true ⟨hmode, hpend⟩
  have asked : ({ m with requester := .probe } : Meas) = m := by rw [← hq]
  rw [State.hunts_path, if_pos probed, asked] at check
  cases h : (s.path p).measureRefusal with
  | some code => exact exec_probeMeasure_refused ht (by rw [← measureBody, check, h]; rfl)
  | none => exact exec_probeMeasure_ok ht (by rw [← measureBody, check, h])

/-- Settles O31: the checks by the fields in turn, the mode's refusal, and the MEASURE by the state of the path. -/
theorem probeMeasureTaken : Obligations.ProbeMeasureTaken := by
  unfold Obligations.ProbeMeasureTaken
  refine ⟨fun s tag b k w d r ht => ⟨fun hb => ?_, fun hb hk => ?_, fun hb hk h4 h8 => ?_, fun hb hk hw hd => ?_,
    fun hb hk hw hd hr => ?_⟩, fun s tag p m ht hw hd hmode => ?_, fun s tag p m ht hw hd hq hmode hpend => ?_⟩
  · exact exec_probeMeasure_refused ht (checkProbeMeasure_path_range _ hb)
  · exact exec_probeMeasure_refused ht (checkProbeMeasure_class_range _ hb hk)
  · exact exec_probeMeasure_refused ht (checkProbeMeasure_window_range _ hb hk h4 h8)
  · exact exec_probeMeasure_refused ht (checkProbeMeasure_leadIn_range _ hb hk hw hd)
  · exact exec_probeMeasure_refused ht (checkProbeMeasure_release_range _ hb hk hw hd hr)
  · have unprobed : ¬ (s.path p).probed = true := by
      rw [Path.probed, decide_eq_true_iff]
      exact fun h => hmode.elim (· h.1) (· h.2)
    exact exec_probeMeasure_refused ht ((checkProbeMeasure_inRange p s.hunts hw hd).trans (if_neg unprobed))
  · have taken := exec_probeMeasure_manual tag ht hw hd hq hmode hpend
    refine ⟨fun hst => ?_, fun hst => ⟨fun hp => ?_, fun hp => ?_⟩, fun hst => ?_,
      fun w hst hwin => ⟨fun hr => ?_, fun hr hh => ?_, fun hr hh => ?_⟩⟩
    · rw [measureRefusal_untuned hst] at taken; exact taken
    · rw [measureRefusal_tuning hst, if_pos hp, takeMeasure_tuning (s := s.hunts) m hst] at taken; exact taken
    · rw [measureRefusal_tuning hst, if_neg hp] at taken; exact taken
    · rw [measureRefusal_locked hst, takeMeasure_locked (s := s.hunts) m hst] at taken
      simp only [State.startWindow, decide_eq_true_eq] at taken
      exact taken
    · rw [measureRefusal_measuring hst hwin, if_pos hr] at taken; exact taken
    · rw [measureRefusal_measuring hst hwin, if_neg (by simp [hr]), if_neg hh] at taken; exact taken
    · rw [measureRefusal_measuring hst hwin, if_neg (by simp [hr]), if_pos hh,
        takeMeasure_measuring (s := s.hunts) m hst hwin, cutBy_of_stays m hr] at taken
      exact taken

end Sys2Proof.ReceivePaths

/-! PROOFS. The lock timeout and the content timeout (O34, O38). -/
namespace Sys2Proof.ReceivePaths
open Sys2Proof.Machine

/-! ## The lock timeout -/

theorem lockTimesOut_due {s : State} {p : Fin 8} {e : Stamp} (hs : (s.path p).state = .locking)
    (he : (s.path p).lockEnd = some e) (hr : reached s.clock e = true) :
    s.lockTimesOut p = (s.lockFails p).runEngine := by
  have due : isDue s.clock (s.path p).lockEnd = true := by rw [he]; exact hr
  exact if_pos ⟨hs, due⟩

/-- A tune that fails at the lock timeout hands its NO_LOCK result over, and the path leaves the carrier (R38). -/
theorem lockFails_eq {s : State} {p : Fin 8} {c : Nat} {q : Requester} (hc : (s.path p).tuned = some c)
    (hq : (s.path p).tuneRequester = some q) :
    s.lockFails p
      = ((s.setPath p { s.path p with posted := none, lockEnd := none }).deliver
          (unrun p c (s.path p).posted q .noLock s.clock)).leaves p := by
  simp only [State.lockFails, hc, hq, State.tuneFails_eq, State.startRelease_eq, State.setPath_clock]

/-- Settles O34: the failed tune's record is the posted measure's, or the tune's alone. -/
theorem lockTimeoutFailsTune : Obligations.LockTimeoutFailsTune := by
  unfold Obligations.LockTimeoutFailsTune
  intro s p e c q x record hstate he hr hc hq
  have ends : exec (.lockTimeout p) s = .next ((((s.setPath p { x with posted := none, lockEnd := none }).deliver
      (unrun p c x.posted q .noLock s.clock)).leaves p).runEngine) :=
    congrArg _ ((lockTimesOut_due hstate he hr).trans (congrArg _ (lockFails_eq hc hq)))
  refine ⟨fun m hm => ?_, fun hm => ?_⟩
  all_goals rw [ends, hm]; rfl

/-! ## The content timeout -/

/-- The content timeout is tested while the path gathers (R62, R66; log 7). -/
theorem contentTimesOut_gathering {s : State} {p : Fin 8} {w : Window} {g : Gathering} {e : Stamp}
    (hs : (s.path p).state = .measuring) (hw : (s.path p).window = some w) (hg : w.gathering = some g)
    (he : (s.path p).contentEnd = some e) :
    s.contentTimesOut p
      = if reached s.clock e = true then (s.endWindow p .incomplete none s.clock).runEngine else s := by
  simp only [State.contentTimesOut, hs, hw, hg, he, Option.bind_some, isDue]

/-- Settles O38: the window ends INCOMPLETE with its figures, or stays. -/
theorem contentTimeoutEndsRead : Obligations.ContentTimeoutEndsRead := by
  unfold Obligations.ContentTimeoutEndsRead
  intro s p w g e c hs hw hg he hc hcls
  have ends : exec (.contentTimeout p) s
      = .next (if reached s.clock e = true then (s.endWindow p .incomplete none s.clock).runEngine else s) :=
    congrArg _ (contentTimesOut_gathering hs hw hg he)
  refine ⟨fun hr => ?_, fun hr => ?_⟩
  · rw [ends, if_pos hr, State.endWindow_eq p _ _ _ s hc hw]
    simp only [Window.figures, hcls, if_true]
  · rw [ends, if_neg (by simp [hr])]

end Sys2Proof.ReceivePaths

/-! PROOFS. The gathering of an announcement and the announcement built (O37). -/
namespace Sys2Proof.ReceivePaths
open Sys2Proof.Machine

/-! ## A feed's signal (R24) -/

theorem feed_dead_iff (x : Feed) : x.dead = true ↔ x.state = .fault ∨ x.state = .retry ∨ x.state = .off := by
  cases h : x.state <;> simp [Feed.dead, h]

theorem tapDead_of_alive {s : State} {p : Fin 8} {f : Fin 6} (ht : (s.path p).tap = some f)
    (hf : (s.feed f).state = .on ∨ (s.feed f).state = .setting) : s.tapDead p = false := by
  rcases hf with hf | hf <;> simp [State.tapDead, ht, Feed.dead, hf]

theorem tapDead_of_dead {s : State} {p : Fin 8} (h : ∀ f, (s.path p).tap = some f →
    (s.feed f).state = .fault ∨ (s.feed f).state = .retry ∨ (s.feed f).state = .off) : s.tapDead p = true := by
  unfold State.tapDead
  cases ht : (s.path p).tap with
  | none => rfl
  | some f => exact (feed_dead_iff _).2 (h f ht)

/-! ## The gathering record (R63) -/

/-- The head of the gathering that an ANNOUNCEMENT_SECTION belongs to. -/
def sectionHead (sec : AnnouncementSection) : GatheringHead :=
  ⟨⟨sec.network.toNat, sec.stream.toNat⟩, sec.version.toNat, sec.last.toNat⟩

/-- A number above the last one is passed over. -/
theorem take_beyond {g : Gathering} {sec : AnnouncementSection} (h : sec.last.toNat < sec.number.toNat) : g.take sec = g :=
  if_pos h

/-- Another identity, version or last number begins the gathering again. -/
theorem take_other {g : Gathering} {sec : AnnouncementSection} (h : sec.number.toNat ≤ sec.last.toNat)
    (hd : g.head ≠ some (sectionHead sec)) :
    g.take sec = ⟨some (sectionHead sec), [⟨sec.number.toNat, sec.entries⟩]⟩ :=
  (if_neg (Nat.not_lt.mpr h)).trans (if_pos hd)

/-- Of a gathering that goes on, a number not yet held is added. -/
theorem take_same {g : Gathering} {sec : AnnouncementSection} (h : sec.number.toNat ≤ sec.last.toNat)
    (hd : g.head = some (sectionHead sec)) :
    g.take sec
      = if ∃ y ∈ g.sections, y.number = sec.number.toNat then g
        else ⟨some (sectionHead sec), g.sections ++ [⟨sec.number.toNat, sec.entries⟩]⟩ := by
  have goes : g.take sec
      = if g.sections.any (fun y => decide (y.number = sec.number.toNat)) = true then g
        else { g with sections := g.sections ++ [⟨sec.number.toNat, sec.entries⟩] } :=
    (if_neg (Nat.not_lt.mpr h)).trans (if_neg (not_not_intro hd))
  rw [goes, hd]
  simp only [List.any_eq_true, decide_eq_true_eq]

/-- The gathering holds every number up to the last one it waits for (R63). -/
theorem complete_iff {h : Gathering} {hd : GatheringHead} (hh : h.head = some hd) :
    h.complete = true ↔ ∀ n, n ≤ hd.last → ∃ y ∈ h.sections, y.number = n := by
  have held : h.complete
      = (List.range (hd.last + 1)).all fun n => (h.sections.find? fun y => decide (y.number = n)).isSome := by
    rw [Gathering.complete, hh]; rfl
  simp only [held, List.all_eq_true, List.mem_range, Nat.lt_succ_iff, List.find?_isSome, decide_eq_true_eq]

/-! ## The announcement built (R64, R65) -/

/-- A sent entry is one of a service: not service id 0, and TV, RADIO or DATA. -/
def ofService (e : SentEntry) : Bool := decide (e.serviceId ≠ 0 ∧ e.kind.toNat < 3)

/-- The entry an announcement makes of a sent one. -/
def announcedAs (e : SentEntry) : Announced where
  serviceId := e.serviceId.toNat
  kind := if e.kind.toNat = 0 then .tv else if e.kind.toNat = 1 then .radio else .data
  scrambled := e.scrambled
  running := e.running
  name := e.name.take 20

/-- What is kept of a sent entry. -/
theorem kept_eq (e : SentEntry) : SentEntry.kept e = if ofService e = true then some (announcedAs e) else none := by
  unfold SentEntry.kept
  by_cases h0 : e.serviceId = 0
  · have passedOver : ofService e = false := decide_eq_false fun h => h.1 h0
    rw [if_pos h0, passedOver]; rfl
  · have byKind : ofService e = decide (e.kind.toNat < 3) := by
      simp only [ofService, ne_eq, h0, not_false_eq_true, true_and]
    rw [if_neg h0, byKind]
    match hk : e.kind.toNat with
    | 0 | 1 | 2 => simp [ServiceKind.announced, announcedAs, hk, Config.nameLength]
    | n + 3 => simp [ServiceKind.announced]

theorem filterMap_kept (l : List SentEntry) : l.filterMap SentEntry.kept = (l.filter ofService).map announcedAs := by
  induction l with
  | nil => rfl
  | cons e r ih => cases h : ofService e <;> simp [kept_eq e, h, ih]

/-- Some entry of a list has the service id of a sent one. -/
def hasServiceOf (acc : List Announced) (e : SentEntry) : Bool :=
  acc.any fun x => decide (x.serviceId = (announcedAs e).serviceId)

theorem hasServiceOf_append (acc : List Announced) (e d : SentEntry) :
    hasServiceOf (acc ++ [announcedAs e]) d = (hasServiceOf acc d || decide (d.serviceId = e.serviceId)) := by
  simp [hasServiceOf, announcedAs, BitVec.toNat_inj, eq_comm]

theorem hasServiceOf_congr (acc : List Announced) {d e : SentEntry} (h : d.serviceId = e.serviceId) :
    hasServiceOf acc d = hasServiceOf acc e := by
  unfold hasServiceOf announcedAs
  rw [h]

/-- Behind the entries already taken come the first of each service id that none of them has (R64). -/
theorem firstOfEach_map (acc : List Announced) (l : List SentEntry) :
    firstOfEach acc (l.map announcedAs)
      = acc ++ ((firstByServiceId l).filter fun d => !hasServiceOf acc d).map announcedAs := by
  induction l generalizing acc with
  | nil => simp [firstOfEach, firstByServiceId]
  | cons e r ih =>
    have step : firstOfEach acc ((e :: r).map announcedAs)
        = if hasServiceOf acc e = true then firstOfEach acc (r.map announcedAs)
          else firstOfEach (acc ++ [announcedAs e]) (r.map announcedAs) := rfl
    rw [step, ih, ih]
    cases h : hasServiceOf acc e with
    | true =>
      have later (d) : (!hasServiceOf acc d && decide (d.serviceId ≠ e.serviceId)) = !hasServiceOf acc d := by
        by_cases hd : d.serviceId = e.serviceId
        · simp [hasServiceOf_congr acc hd, h]
        · simp [hd]
      simp only [firstByServiceId, List.filter_cons, h, List.filter_filter, later, Bool.not_true, Bool.false_eq_true,
        if_true, if_false]
    | false =>
      simp [firstByServiceId, h, List.filter_filter, hasServiceOf_append]

theorem firstOfEach_nil_map (l : List SentEntry) :
    firstOfEach [] (l.map announcedAs) = (firstByServiceId l).map announcedAs := by
  have every : (firstByServiceId l).filter (fun d => !hasServiceOf [] d) = firstByServiceId l :=
    List.filter_eq_self.2 fun _ _ => rfl
  rw [firstOfEach_map, List.nil_append, every]

theorem flatMap_filterMap {α β γ : Type} (f : α → Option β) (g : β → List γ) (l : List α) :
    (l.filterMap f).flatMap g = l.flatMap fun a => ((f a).map g).getD [] := by
  induction l with
  | nil => rfl
  | cons a r ih =>
    cases h : f a with
    | none =>
      rw [List.filterMap_cons_none h, List.flatMap_cons, h, ih]; rfl
    | some b =>
      rw [List.filterMap_cons_some h, List.flatMap_cons, List.flatMap_cons, h, ih]; rfl

/-- The entries a gathering holds, in the order of their numbers. -/
def sentOf (h : Gathering) (hd : GatheringHead) : List SentEntry :=
  (List.range (hd.last + 1)).flatMap fun n =>
    ((h.sections.find? fun y => decide (y.number = n)).map (·.entries)).getD []

theorem announcement_eq {h : Gathering} {hd : GatheringHead} (hh : h.head = some hd) :
    h.announcement
      = (let left := firstByServiceId ((sentOf h hd).filter ofService)
         some
          { identity := hd.identity, version := hd.version, truncated := decide (32 < left.length)
            entries := (left.take 32).map announcedAs }) := by
  have built : h.announcement
      = (let all := firstOfEach [] ((sentOf h hd).filterMap SentEntry.kept)
         some
          { identity := hd.identity, version := hd.version, truncated := decide (Config.announced < all.length)
            entries := all.take Config.announced }) := by
    rw [sentOf, ← flatMap_filterMap, Gathering.announcement, hh]; rfl
  rw [built, filterMap_kept, firstOfEach_nil_map]
  simp only [List.length_map, List.map_take, Config.announced]

/-! ## ANNOUNCEMENT_SECTION -/

/-- The outcome of a completed read (R64). -/
def readOutcome (a : Announcement) : MeasOutcome := if a.truncated = true then .truncated else .complete

/-- The path with its gathering record replaced. -/
def withGathering (s : State) (p : Fin 8) (w : Window) (h : Gathering) : State :=
  s.setPath p { s.path p with window := some { w with gathering := some h } }

/-- ANNOUNCEMENT_SECTION on a path that gathers, with a signal. -/
theorem sectionArrives_gathering {s : State} {p : Fin 8} {sec : AnnouncementSection} {w : Window} {g : Gathering}
    (hs : (s.path p).state = .measuring) (hw : (s.path p).window = some w) (hg : w.gathering = some g)
    (hd : s.tapDead p = false) :
    s.sectionArrives p sec
      = if (g.take sec).complete = true then
          match (g.take sec).announcement with
          | some a => ((withGathering s p w (g.take sec)).endWindow p (readOutcome a) (some a) s.clock).runEngine
          | none => withGathering s p w (g.take sec)
        else withGathering s p w (g.take sec) := by
  simp only [State.sectionArrives, withGathering, hs, hw, hg, hd, Option.bind_some, Bool.false_eq_true, if_false]
  rfl

theorem sectionArrives_dead {s : State} {p : Fin 8} {sec : AnnouncementSection} (hd : s.tapDead p = true) :
    s.sectionArrives p sec = s := by
  simp only [State.sectionArrives, hd, if_true]
  split <;> rfl

theorem sectionArrives_idle {s : State} {p : Fin 8} {sec : AnnouncementSection}
    (h : (s.path p).state ≠ .measuring ∨ ∀ w, (s.path p).window = some w → w.gathering = none) :
    s.sectionArrives p sec = s := by
  simp only [State.sectionArrives]
  split
  · rename_i w g hs hw hg
    rw [hw, Option.bind_some] at hg
    rcases h with h | h
    · exact absurd hs h
    · rw [h w hw] at hg; cases hg
  · rfl

/-- Settles O37: ANNOUNCEMENT_SECTION by the gathering record, where nothing is gathered, and the announcement built. -/
theorem sectionIsGathered : Obligations.SectionIsGathered := by
  unfold Obligations.SectionIsGathered
  refine ⟨?_, fun s p sec => ⟨fun hdead => ?_, fun hidle => ?_⟩, fun h hd hh => ⟨complete_iff hh, announcement_eq hh⟩⟩
  · intro s p sec w g h f x hd hs hw hg htap hf hcase
    have taken : g.take sec = h := by
      rcases hcase with ⟨hn, rfl⟩ | ⟨hn, hne, rfl⟩ | ⟨hn, he, hold, rfl⟩ | ⟨hn, he, hnew, rfl⟩
      · exact take_beyond hn
      · exact take_other hn hne
      · exact (take_same hn he).trans (if_pos hold)
      · exact (take_same hn he).trans (if_neg fun ⟨y, hy, e⟩ => hnew y hy e)
    have arrives := sectionArrives_gathering (sec := sec) hs hw hg (tapDead_of_alive htap hf)
    rw [taken] at arrives
    refine ⟨fun hc => congrArg _ (arrives.trans (if_neg (by simp [hc]))), fun a hc ha => ?_⟩
    rw [if_pos hc, ha] at arrives
    have ends : exec (.announcementSection p sec) s
        = .next ((withGathering s p w h).endWindow p (readOutcome a) (some a) s.clock).runEngine := congrArg _ arrives
    refine ⟨ends, fun c hc => ends.trans ?_⟩
    have tuned : ((withGathering s p w h).path p).tuned = some c := by
      rw [withGathering, State.path_setPath_self]; exact hc
    have window : ((withGathering s p w h).path p).window = some { w with gathering := some h } := by
      rw [withGathering, State.path_setPath_self]
    rw [State.endWindow_eq p _ _ _ _ tuned window]
    rfl
  · exact congrArg _ (sectionArrives_dead (tapDead_of_dead hdead))
  · exact congrArg _ (sectionArrives_idle hidle)

end Sys2Proof.ReceivePaths

/-! SUPPORT. The body of PARAM_SET as the items it carries, and the first failing field among them (R185). -/
namespace Sys2Proof.ParamSet
open Sys2Proof.Machine

/-! ## Items -/

theorem num16_le16 {n : Nat} (h : n < 65536) : num16 (byteOf n) (byteOf (n / 256)) = n := by
  simp only [num16, byteOf, BitVec.toNat_ofNat]
  omega

/-- A body begins with an item: the item, and the items of the rest. -/
theorem paramItems_bytes_append {i : ParamItem} (hc : i.carried = true) (rest : List Byte) :
    paramItems (i.bytes ++ rest) = (paramItems rest).map (i :: ·) := by
  cases i with
  | one n v =>
    obtain ⟨hn, hw, hv⟩ := of_decide_eq_true hc
    have number : (byteOf n).toNat = n := ReceivePaths.toNat_byteOf hn
    have single : isWindow n = false := decide_eq_false hw
    rcases rest with _ | ⟨_, _ | ⟨_, _⟩⟩ <;>
      simp [ParamItem.bytes, le16, paramItems, number, single, num16_le16 hv]
  | two n lo hi =>
    obtain ⟨h27, h29, hlo, hhi⟩ := of_decide_eq_true hc
    have number : (byteOf n).toNat = n := ReceivePaths.toNat_byteOf (by omega)
    have window : isWindow n = true := decide_eq_true ⟨h27, h29⟩
    simp [ParamItem.bytes, le16, paramItems, number, window, num16_le16 hlo, num16_le16 hhi]

/-- The items of a body that carries the list `l`. -/
theorem paramItems_flatMap_bytes {l : List ParamItem} (h : ∀ i ∈ l, i.carried = true) :
    paramItems (l.flatMap ParamItem.bytes) = some l := by
  induction l with
  | nil => rfl
  | cons i l ih =>
    obtain ⟨hi, hl⟩ := List.forall_mem_cons.1 h
    rw [List.flatMap_cons, paramItems_bytes_append hi, ih hl]
    rfl

theorem paramItems_one {n : Byte} (lo hi : Byte) (h : isWindow n.toNat = false) :
    paramItems [n, lo, hi] = some [.one n.toNat (num16 lo hi)] := by
  simp [paramItems, h]

theorem paramItems_two {n : Byte} (lo hi a b : Byte) (h : isWindow n.toNat = true) :
    paramItems [n, lo, hi, a, b] = some [.two n.toNat (num16 lo hi) (num16 a b)] := by
  simp [paramItems, h]

/-! ## Failing fields -/

theorem refusedRange_eq_none {n : Nat} (h10 : 10 ≤ n) (h18 : n ≠ 18) : refusedRange n = none := by
  unfold refusedRange
  split
  case h_11 => rfl
  all_goals omega

/-- A number that Table 12-3 lists, and whose values are clamped or held, refuses none. -/
theorem fault_one_of_clamped {n : Nat} (v : Nat) (h1 : 1 ≤ n) (h29 : n ≤ 29) (hr : refusedRange n = none) :
    (ParamItem.one n v).fault = none := by
  simp [ParamItem.fault, hr, Nat.not_lt.2 h29, Nat.one_le_iff_ne_zero.1 h1]

/-- A number whose range is marked "refused" fails on its value outside it. -/
theorem fault_one_of_refusedRange {n lo hi : Nat} (v : Nat) (h1 : 1 ≤ n) (h29 : n ≤ 29)
    (hr : refusedRange n = some (lo, hi)) :
    (ParamItem.one n v).fault = if v < lo ∨ hi < v then some 1 else none := by
  simp [ParamItem.fault, hr, Nat.not_lt.2 h29, Nat.one_le_iff_ne_zero.1 h1]

theorem fault_one_of_inside {n a b v : Nat} (h1 : 1 ≤ n) (h26 : n ≤ 26) (hr : refusedRange n = some (a, b))
    (ha : a ≤ v) (hb : v ≤ b) : (ParamItem.one n v).fault = none :=
  (fault_one_of_refusedRange v h1 (by omega) hr).trans (if_neg (by omega))

theorem fault_one_of_unlisted {n : Nat} (v : Nat) (h : n = 0 ∨ 29 < n) : (ParamItem.one n v).fault = some 0 :=
  if_pos (h.imp_left fun h0 => by omega)

theorem timing_one_eq_false {n : Nat} (v : Nat) (h : 10 ≤ n) : (ParamItem.one n v).timing = false :=
  decide_eq_false fun ⟨_, h9⟩ => by omega

theorem failingField_eq_none {l : List ParamItem} (n : Nat) (h : ∀ i ∈ l, i.fault = none) : failingField n l = none := by
  induction l generalizing n with
  | nil => rfl
  | cons i l ih =>
    obtain ⟨hi, hl⟩ := List.forall_mem_cons.1 h
    rw [failingField, hi]
    exact ih _ hl

/-- The fields count on through the items that pass, up to the first that fails. -/
theorem failingField_append {l1 l2 : List ParamItem} {i : ParamItem} {k : Nat} (n : Nat)
    (h : ∀ j ∈ l1, j.fault = none) (hi : i.fault = some k) :
    failingField n (l1 ++ i :: l2) = some (n + (l1.map ParamItem.fields).sum + k) := by
  induction l1 generalizing n with
  | nil => simp [failingField, hi]
  | cons j l1 ih =>
    obtain ⟨hj, hl⟩ := List.forall_mem_cons.1 h
    rw [List.cons_append, failingField, hj]
    simp [ih _ hl, Nat.add_assoc]

end Sys2Proof.ParamSet

/-! SUPPORT. The re-timing of the carriers at a new stale limit, one after the other (R102). -/
namespace Sys2Proof.ParamSet
open Sys2Proof.Machine

/-! ## The numbers in use -/

theorem lt_of_mem_keys {α : Type} {b : Nat} {t : Store α} (h : Store.above b t = true) :
    ∀ k ∈ Store.keys t, b < k := by
  induction t generalizing b with
  | nil => simp [Store.keys]
  | cons e r ih =>
    obtain ⟨hb, hr⟩ : b < e.1 ∧ Store.above e.1 r = true := by simpa [Store.above] using h
    exact List.forall_mem_cons.2 ⟨hb, fun k hk => Nat.lt_trans hb (ih hr k hk)⟩

/-- A table in canonical form uses each number once. -/
theorem nodup_keys {α : Type} {t : Store α} (h : Store.wf t = true) : (Store.keys t).Nodup := by
  induction t with
  | nil => exact List.nodup_nil
  | cons e r ih =>
    rw [Store.wf_cons] at h
    have rest : Store.wf r = true := by
      cases r with
      | nil => rfl
      | cons j r =>
        rw [Store.wf_cons]
        exact (Bool.and_eq_true_iff.1 h).2
    exact List.nodup_cons.2 ⟨fun hk => Nat.lt_irrefl _ (lt_of_mem_keys h e.1 hk), ih rest⟩

theorem find_eq_none {α : Type} {t : Store α} {i : Nat} (h : i ∉ Store.keys t) : Store.find t i = none := by
  induction t with
  | nil => rfl
  | cons e r ih =>
    obtain ⟨hi, hr⟩ := not_or.1 (mt List.mem_cons.2 h)
    rw [Store.find, if_neg (Ne.symm hi), ih hr]

/-! ## The re-timing of one carrier -/

/-- The reception fields of a FRESH carrier whose age has reached the stale limit. -/
def aged (r : Reception) : Reception := { r with state := .stale, staleEnd := none }

/-- A carrier record at the re-timing. -/
def retimed (now : Stamp) (limit : Nat) (x : Carrier) : Carrier :=
  match x.reception.state, x.reception.scoredAt with
  | .fresh, some t =>
    if 1000 * limit ≤ (now - t).toNat then { x with reception := aged x.reception }
    else { x with reception := { x.reception with staleEnd := some (t + BitVec.ofNat 32 (1000 * limit)) } }
  | _, _ => x

/-- The report on a carrier just written tells of the fields written. -/
theorem reportCarrier_setCarrier (s : State) (c : Nat) (cause : RankCause) (before : Reception) (x : Carrier) :
    (s.setCarrier c x).reportCarrier c cause before = (s.setCarrier c x).tells c cause before x.reception := by
  simp only [State.reportCarrier, State.carrier_setCarrier_self]
  rfl

/-- The re-timing of one carrier, at the clock reading `now` and the stale limit `limit`. -/
def retimeOne (now : Stamp) (limit : Nat) (s : State) (c : Nat) : State :=
  match s.carrier c with
  | none => s
  | some x =>
    match x.reception.state, x.reception.scoredAt with
    | .fresh, some t =>
      if 1000 * limit ≤ (now - t).toNat then
        (s.setCarrier c { x with reception := aged x.reception }).tells c .aged x.reception (aged x.reception)
      else
        s.setCarrier c
          { x with reception := { x.reception with staleEnd := some (t + BitVec.ofNat 32 (1000 * limit)) } }
    | _, _ => s

theorem retimeCarrier_eq (s : State) (c : Nat) : s.retimeCarrier c = retimeOne s.clock s.params.staleLimit s c := by
  unfold State.retimeCarrier retimeOne
  cases hx : s.carrier c with
  | none => rfl
  | some x =>
    cases hs : x.reception.state
    case fresh =>
      cases ht : x.reception.scoredAt with
      | none => simp only [hs, ht]
      | some t =>
        simp only [hs, ht, State.ageCarrier, hx, reportCarrier_setCarrier, aged, age, State.staleTime, ms]
    all_goals simp only [hs]

theorem tells_frame (c : Nat) (cause : RankCause) (before after : Reception) (s : State) :
    LineupFrame s (s.tells c cause before after) := State.handReports_frame _ _

/-- All that the re-timing of one carrier changes but for what its report brings about: the record of that carrier. -/
theorem retimeOne_cases (now : Stamp) (limit : Nat) (s : State) (c : Nat) :
    ∃ u, LineupFrame u (retimeOne now limit s c) ∧
      (u = s ∧ (s.carrier c).map (retimed now limit) = s.carrier c
        ∨ ∃ x, s.carrier c = some x ∧ u = s.setCarrier c (retimed now limit x)) := by
  unfold retimeOne
  split
  · rename_i hx
    exact ⟨s, .refl s, .inl ⟨rfl, by rw [hx]; rfl⟩⟩
  · rename_i x hx
    split
    · rename_i t hs ht
      split
      · rename_i old
        refine ⟨_, tells_frame _ _ _ _ _, .inr ⟨x, hx, ?_⟩⟩
        simp only [retimed, hs, ht, old, if_true]
      · rename_i young
        refine ⟨_, .refl _, .inr ⟨x, hx, ?_⟩⟩
        simp only [retimed, hs, ht, young, if_false]
    · rename_i other
      refine ⟨s, .refl s, .inl ⟨rfl, ?_⟩⟩
      rw [hx, Option.map_some, retimed]
      split
      · exact absurd ‹_› (other _ ‹_›)
      · rfl

theorem retimeOne_clock (now : Stamp) (limit : Nat) (s : State) (c : Nat) :
    (retimeOne now limit s c).clock = s.clock := by
  obtain ⟨u, frame, ⟨rfl, -⟩ | ⟨x, -, rfl⟩⟩ := retimeOne_cases now limit s c <;> exact frame.clock

theorem retimeOne_params (now : Stamp) (limit : Nat) (s : State) (c : Nat) :
    (retimeOne now limit s c).params = s.params := by
  obtain ⟨u, frame, ⟨rfl, -⟩ | ⟨x, -, rfl⟩⟩ := retimeOne_cases now limit s c <;> exact frame.params

theorem retimeOne_carrier (now : Stamp) (limit : Nat) (s : State) (c d : Nat) :
    (retimeOne now limit s c).carrier d = if d = c then (s.carrier d).map (retimed now limit) else s.carrier d := by
  obtain ⟨u, frame, written⟩ := retimeOne_cases now limit s c
  have kept : (retimeOne now limit s c).carrier d = u.carrier d := by rw [State.carrier, frame.carriers, State.carrier]
  rw [kept]
  obtain ⟨rfl, same⟩ | ⟨x, hx, rfl⟩ := written
  · split
    · subst d; exact same.symm
    · rfl
  · split
    · subst d; rw [State.carrier_setCarrier_self, hx, Option.map_some]
    · exact State.carrier_setCarrier_ne _ _ ‹_›

/-! ## The re-timing of every carrier -/

/-- A re-timing keeps the clock and the stale limit, so that every carrier is re-timed at the same ones. -/
theorem retime_eq (s : State) :
    s.retime = (Store.keys s.carriers).foldl (retimeOne s.clock s.params.staleLimit) s := by
  refine (List.foldl_rel (r := fun u v => u = v ∧ u.clock = s.clock ∧ u.params = s.params) ⟨rfl, rfl, rfl⟩ ?_).1
  rintro c - u _ ⟨rfl, hclock, hparams⟩
  rw [retimeCarrier_eq, retimeOne_clock, retimeOne_params, hclock, hparams]
  exact ⟨rfl, rfl, rfl⟩

theorem foldl_retimeOne_params (now : Stamp) (limit : Nat) (l : List Nat) (s : State) :
    (l.foldl (retimeOne now limit) s).params = s.params := by
  induction l generalizing s with
  | nil => rfl
  | cons c l ih => rw [List.foldl_cons, ih, retimeOne_params]

theorem retime_params (s : State) : s.retime.params = s.params := by
  rw [retime_eq, foldl_retimeOne_params]

/-- Carriers re-timed one after the other, each once. -/
theorem foldl_retimeOne_carrier (now : Stamp) (limit : Nat) {l : List Nat} (hl : l.Nodup) (s : State) (d : Nat) :
    (l.foldl (retimeOne now limit) s).carrier d
      = if d ∈ l then (s.carrier d).map (retimed now limit) else s.carrier d := by
  induction l generalizing s with
  | nil => rfl
  | cons c l ih =>
    obtain ⟨hc, hl⟩ := List.nodup_cons.1 hl
    rw [List.foldl_cons, ih hl, retimeOne_carrier]
    by_cases h : d = c
    · subst d; simp [hc]
    · simp [h]

/-- Every carrier is re-timed (R102). -/
theorem retime_carrier {s : State} (h : Store.wf s.carriers = true) (c : Nat) :
    s.retime.carrier c = (s.carrier c).map (retimed s.clock s.params.staleLimit) := by
  rw [retime_eq, foldl_retimeOne_carrier _ _ (nodup_keys h)]
  split
  · rfl
  · rw [State.carrier, find_eq_none ‹_›, Option.map_none]

end Sys2Proof.ParamSet

/-! PROOFS. PARAM_SET (O22): by what the items of its body are, then by the rows of Table 12-3. -/
namespace Sys2Proof.ParamSet
open Sys2Proof.Machine

/-! ## PARAM_SET, by what its items are -/

/-- The module in which the timing parameters may be written (R94): the survey STOPPED, every path PARKED. -/
def Still (s : State) : Prop := s.survey = .stopped ∧ ∀ p, (s.path p).state = .parked

theorem allParked_iff (s : State) : s.allParked = true ↔ ∀ p, (s.path p).state = .parked := by
  have all (p : Fin 8) : p ∈ allPaths := by revert p; decide
  simp [State.allParked, all]

theorem still_iff (s : State) : (decide (s.survey = .stopped) && s.allParked) = true ↔ Still s := by
  rw [Bool.and_eq_true, decide_eq_true_eq, allParked_iff, Still]

theorem handleParamSet_range {body : List Byte} {l : List ParamItem} {n : Nat} (s : State)
    (hb : paramItems body = some l) (hn : failingField 1 l = some n) (h : n ≤ 255) :
    handleParamSet body s = (⟨.outOfRange, byteOf n :: s.params.bytes⟩, s) := by
  cases l with
  | nil => cases hn
  | cons i l => simp [handleParamSet, hb, hn, State.fieldByte, h]

theorem handleParamSet_wrongState {body : List Byte} {l : List ParamItem} {s : State}
    (hb : paramItems body = some l) (hf : ∀ i ∈ l, i.fault = none) (ht : ∃ i ∈ l, i.timing = true) (hs : ¬ Still s) :
    handleParamSet body s = (⟨.wrongState, s.params.bytes⟩, s) := by
  have timing : l.any ParamItem.timing = true := List.any_eq_true.2 ht
  have moving : (decide (s.survey = .stopped) && s.allParked) = false := Bool.eq_false_iff.2 (mt (still_iff s).1 hs)
  cases l with
  | nil => cases timing
  | cons i l =>
    simp only [handleParamSet, hb, failingField_eq_none 1 hf, timing, moving, Bool.not_false, Bool.and_self, if_true]

theorem handleParamSet_writes {body : List Byte} {l : List ParamItem} {s : State}
    (hb : paramItems body = some l) (hl : l ≠ []) (hf : ∀ i ∈ l, i.fault = none)
    (hs : (∃ i ∈ l, i.timing = true) → Still s) :
    handleParamSet body s = (⟨.ok, (s.writeParams l).params.bytes⟩, s.writeParams l) := by
  have free : (l.any ParamItem.timing && !(decide (s.survey = .stopped) && s.allParked)) = false := by
    cases timing : l.any ParamItem.timing with
    | false => rfl
    | true => rw [(still_iff s).2 (hs (List.any_eq_true.1 timing))]; rfl
  cases l with
  | nil => exact absurd rfl hl
  | cons i l =>
    simp only [handleParamSet, hb, failingField_eq_none 1 hf, free, Bool.false_eq_true, if_false]
    rfl

/-- A PARAM_SET that is taken: its handler's answer is owed in the state its handler leaves. -/
theorem exec_paramSet {s u : State} {tag : Byte} {body : List Byte} {a : Answer} (ht : s.takes = true)
    (hl : body.length ≤ 1024) (h : handleParamSet body s.hunts = (a, u)) :
    exec (.paramSet tag body) s = .next (u.owe 0x90 tag a) := by
  have taken := State.request_taken (kind := 0x10) (tag := tag) ht hl rfl
  rw [h] at taken
  exact congrArg _ taken

/-! ## The request carried out -/

/-- The parameters `P` written, and the reply that carries them (R186). -/
def stored (s : State) (tag : Byte) (P : Params) : State :=
  ({ s.hunts with params := P } : State).owe 0x90 tag ⟨.ok, P.bytes⟩

/-- The parameters `P` written with a stale limit among them, so that every FRESH carrier is re-timed (R102). -/
def limited (s : State) (tag : Byte) (P : Params) : State :=
  ({ s.hunts with params := P } : State).retime.owe 0x90 tag ⟨.ok, P.bytes⟩

section
variable {s : State} {tag : Byte} {body : List Byte} {l : List ParamItem}

theorem exec_paramSet_range {n : Nat} (ht : s.takes = true) (hlen : body.length ≤ 1024)
    (hb : paramItems body = some l) (hn : failingField 1 l = some n) (h : n ≤ 255) :
    exec (.paramSet tag body) s = .next (s.hunts.owe 0x90 tag ⟨.outOfRange, byteOf n :: s.params.bytes⟩) :=
  exec_paramSet ht hlen (handleParamSet_range s.hunts hb hn h)

theorem exec_paramSet_wrongState (ht : s.takes = true) (hlen : body.length ≤ 1024) (hb : paramItems body = some l)
    (hf : ∀ i ∈ l, i.fault = none) (htiming : ∃ i ∈ l, i.timing = true) (hs : ¬ Still s) :
    exec (.paramSet tag body) s = .next (s.hunts.owe 0x90 tag ⟨.wrongState, s.params.bytes⟩) :=
  exec_paramSet (s := s) ht hlen (handleParamSet_wrongState (s := s.hunts) hb hf htiming hs)

theorem exec_paramSet_stored (ht : s.takes = true) (hlen : body.length ≤ 1024) (hb : paramItems body = some l)
    (hl : l ≠ []) (hf : ∀ i ∈ l, i.fault = none) (hn : ∀ i ∈ l, i.number ≠ 14)
    (hs : (∃ i ∈ l, i.timing = true) → Still s) :
    exec (.paramSet tag body) s = .next (stored s tag (l.foldl Params.write s.params)) := by
  have plain : (l.any fun i => decide (i.number = 14)) = false := by simpa using hn
  have written : s.hunts.writeParams l = { s.hunts with params := l.foldl Params.write s.params } := by
    simp only [State.writeParams, plain, Bool.false_eq_true, if_false, State.hunts_params]
  rw [exec_paramSet ht hlen (handleParamSet_writes (s := s.hunts) hb hl hf hs), written, stored]

theorem exec_paramSet_limited (ht : s.takes = true) (hlen : body.length ≤ 1024) (hb : paramItems body = some l)
    (hf : ∀ i ∈ l, i.fault = none) (hn : ∃ i ∈ l, i.number = 14) (hs : (∃ i ∈ l, i.timing = true) → Still s) :
    exec (.paramSet tag body) s = .next (limited s tag (l.foldl Params.write s.params)) := by
  have limit : (l.any fun i => decide (i.number = 14)) = true := by simpa using hn
  have written : s.hunts.writeParams l
      = ({ s.hunts with params := l.foldl Params.write s.params } : State).retime := by
    simp only [State.writeParams, limit, if_true, State.hunts_params]
  obtain ⟨i, hi, -⟩ := hn
  rw [exec_paramSet ht hlen (handleParamSet_writes (s := s.hunts) hb (List.ne_nil_of_mem hi) hf hs), written,
    retime_params, limited]

end

/-! ## A body of one item -/

section
variable {s : State} {tag : Byte} {body : List Byte} {i : ParamItem}

theorem exec_paramSet_item_range {k : Nat} (ht : s.takes = true) (hlen : body.length ≤ 1024)
    (hb : paramItems body = some [i]) (hf : i.fault = some k) (hk : k < 255) :
    exec (.paramSet tag body) s = .next (s.hunts.owe 0x90 tag ⟨.outOfRange, byteOf (1 + k) :: s.params.bytes⟩) :=
  exec_paramSet_range (l := [i]) ht hlen hb (by simp only [failingField, hf]) (by omega)

theorem exec_paramSet_item_wrongState (ht : s.takes = true) (hlen : body.length ≤ 1024)
    (hb : paramItems body = some [i]) (hf : i.fault = none) (htiming : i.timing = true) (hs : ¬ Still s) :
    exec (.paramSet tag body) s = .next (s.hunts.owe 0x90 tag ⟨.wrongState, s.params.bytes⟩) :=
  exec_paramSet_wrongState (l := [i]) ht hlen hb (by simpa using hf) (by simpa using htiming) hs

theorem exec_paramSet_item_stored (ht : s.takes = true) (hlen : body.length ≤ 1024)
    (hb : paramItems body = some [i]) (hf : i.fault = none) (hn : i.number ≠ 14) (hs : i.timing = true → Still s) :
    exec (.paramSet tag body) s = .next (stored s tag (s.params.write i)) :=
  exec_paramSet_stored (l := [i]) ht hlen hb (List.cons_ne_nil _ _) (by simpa using hf) (by simpa using hn)
    (by simpa using hs)

theorem exec_paramSet_item_limited (ht : s.takes = true) (hlen : body.length ≤ 1024)
    (hb : paramItems body = some [i]) (hf : i.fault = none) (hn : i.number = 14) (hs : i.timing = true → Still s) :
    exec (.paramSet tag body) s = .next (limited s tag (s.params.write i)) :=
  exec_paramSet_limited (l := [i]) ht hlen hb (by simpa using hf) (by simpa using hn) (by simpa using hs)

end

section
variable {s : State} (tag : Byte) {n : Byte} (lo hi : Byte)

/-- A number whose values are clamped or held is written whatever value it carries (R93, R185). -/
theorem exec_paramSet_clamped (ht : s.takes = true) (h10 : 10 ≤ n.toNat) (h26 : n.toNat ≤ 26) (h14 : n.toNat ≠ 14)
    (h18 : n.toNat ≠ 18) :
    exec (.paramSet tag [n, lo, hi]) s = .next (stored s tag (s.params.write (.one n.toNat (num16 lo hi)))) := by
  refine exec_paramSet_item_stored ht (by simp) (paramItems_one lo hi (decide_eq_false (by omega))) ?_ h14 ?_
  · exact fault_one_of_clamped _ (by omega) (by omega) (refusedRange_eq_none h10 h18)
  · rw [timing_one_eq_false _ h10]; exact fun h => nomatch h

theorem exec_paramSet_unlisted (ht : s.takes = true) (h : n.toNat = 0 ∨ 29 < n.toNat) :
    exec (.paramSet tag [n, lo, hi]) s = .next (s.hunts.owe 0x90 tag ⟨.outOfRange, byteOf 1 :: s.params.bytes⟩) :=
  exec_paramSet_item_range ht (by simp) (paramItems_one lo hi (decide_eq_false (by omega))) (fault_one_of_unlisted _ h)
    (by decide)

/-- A number that refuses the values outside its range refuses this one, on its value's field. -/
theorem exec_paramSet_outside {a b : Nat} (ht : s.takes = true) (h1 : 1 ≤ n.toNat) (h26 : n.toNat ≤ 26)
    (hr : refusedRange n.toNat = some (a, b)) (hv : num16 lo hi < a ∨ b < num16 lo hi) :
    exec (.paramSet tag [n, lo, hi]) s = .next (s.hunts.owe 0x90 tag ⟨.outOfRange, byteOf 2 :: s.params.bytes⟩) :=
  exec_paramSet_item_range ht (by simp) (paramItems_one lo hi (decide_eq_false (by omega)))
    ((fault_one_of_refusedRange _ h1 (by omega) hr).trans (if_pos hv)) (by decide)

/-- One inside its range is written, a timing parameter in a still module alone (R94). -/
theorem exec_paramSet_inside {a b : Nat} (ht : s.takes = true) (h1 : 1 ≤ n.toNat) (h26 : n.toNat ≤ 26)
    (hr : refusedRange n.toNat = some (a, b)) (ha : a ≤ num16 lo hi) (hb : num16 lo hi ≤ b)
    (hs : n.toNat ≤ 9 → Still s) :
    exec (.paramSet tag [n, lo, hi]) s = .next (stored s tag (s.params.write (.one n.toNat (num16 lo hi)))) := by
  refine exec_paramSet_item_stored ht (by simp) (paramItems_one lo hi (decide_eq_false (by omega)))
    (fault_one_of_inside h1 h26 hr ha hb) (fun h => ?_) fun h => hs (of_decide_eq_true h).2
  rw [show n.toNat = 14 from h] at hr
  cases hr

end

/-! ## The rows of Table 12-3 -/

/-- A timing parameter's number, the bounds of its range, and the field that takes its value. -/
structure TimingRow (v : Nat) (e : Byte × Nat × Nat × (Params → Params)) : Prop where
  timing : (ParamItem.one e.1.toNat v).timing = true
  range : refusedRange e.1.toNat = some (e.2.1, e.2.2.1)
  write : ∀ P : Params, P.write (.one e.1.toNat v) = e.2.2.2 P

/-- A level window's number, and the field that takes the window. -/
structure WindowRow (e : Byte × (LevelWindow → Params → Params)) : Prop where
  window : isWindow e.1.toNat = true
  write : ∀ lo hi (P : Params), P.write (.two e.1.toNat lo hi) = e.2 ⟨lo, hi⟩ P

section
variable {s : State} (tag : Byte) (lo hi : Byte) {e : Byte × Nat × Nat × (Params → Params)}

theorem exec_paramSet_timing_wrongState (he : TimingRow (num16 lo hi) e) (ht : s.takes = true)
    (ha : e.2.1 ≤ num16 lo hi) (hb : num16 lo hi ≤ e.2.2.1) (hs : ¬ Still s) :
    exec (.paramSet tag [e.1, lo, hi]) s = .next (s.hunts.owe 0x90 tag ⟨.wrongState, s.params.bytes⟩) := by
  obtain ⟨timing, range, -⟩ := he
  obtain ⟨h1, h9⟩ := of_decide_eq_true timing
  exact exec_paramSet_item_wrongState ht (by simp) (paramItems_one lo hi (decide_eq_false (by omega)))
    (fault_one_of_inside h1 (by omega) range ha hb) timing hs

theorem exec_paramSet_timing_stored (he : TimingRow (num16 lo hi) e) (ht : s.takes = true)
    (ha : e.2.1 ≤ num16 lo hi) (hb : num16 lo hi ≤ e.2.2.1) (hs : Still s) :
    exec (.paramSet tag [e.1, lo, hi]) s = .next (stored s tag (e.2.2.2 s.params)) := by
  obtain ⟨timing, range, write⟩ := he
  obtain ⟨h1, h9⟩ := of_decide_eq_true timing
  rw [← write]
  exact exec_paramSet_inside tag lo hi ht h1 (by omega) range ha hb fun _ => hs

end

section
variable {s : State} (tag : Byte) (lo hi a b : Byte) {e : Byte × (LevelWindow → Params → Params)}

/-- A level window that is refused, on its lower or its upper limit (R94). -/
theorem exec_paramSet_window_range {k : Nat} (he : WindowRow e) (ht : s.takes = true)
    (hf : (ParamItem.two e.1.toNat (num16 lo hi) (num16 a b)).fault = some k) (hk : k < 255) :
    exec (.paramSet tag [e.1, lo, hi, a, b]) s
      = .next (s.hunts.owe 0x90 tag ⟨.outOfRange, byteOf (1 + k) :: s.params.bytes⟩) :=
  exec_paramSet_item_range ht (by simp) (paramItems_two lo hi a b he.window) hf hk

theorem exec_paramSet_window_stored (he : WindowRow e) (ht : s.takes = true) (hlt : num16 lo hi < num16 a b)
    (hle : num16 a b ≤ 240) :
    exec (.paramSet tag [e.1, lo, hi, a, b]) s
      = .next (stored s tag (e.2 ⟨num16 lo hi, num16 a b⟩ s.params)) := by
  obtain ⟨window, write⟩ := he
  have number : 27 ≤ e.1.toNat ∧ e.1.toNat ≤ 29 := of_decide_eq_true window
  rw [← write]
  refine exec_paramSet_item_stored ht (by simp) (paramItems_two lo hi a b window) ?_ ?_ nofun
  · rw [ParamItem.fault, if_neg (by omega), if_neg (by omega)]
  · simp only [ParamItem.number]; omega

end

theorem write_requiredMer (P : Params) (m : Fin 8) (v : Nat) :
    P.write (.one (byteOf (19 + m.1)).toNat v) = { P with requiredMer := P.requiredMer.set m.1 (min 400 v) } := by
  match m with
  | 0 | 1 | 2 | 3 | 4 | 5 | 6 | 7 => rfl

/-- Settles O22: each row of Table 12-3 as a body of one item, the re-timing, and bodies of several items. -/
theorem paramSetWritesSet : Obligations.ParamSetWritesSet := by
  unfold Obligations.ParamSetWritesSet
  intro s tag lo hi v ht hv
  change v = num16 lo hi at hv
  subst hv
  intro stored range timing windows still limited
  have timingRow : ∀ e ∈ timing, TimingRow (num16 lo hi) e := by
    simp only [timing, List.forall_mem_cons]
    refine ⟨?_, ?_, ?_, ?_, ?_, ?_, ?_, ?_, ?_, nofun⟩ <;> exact ⟨rfl, rfl, fun _ => rfl⟩
  have windowRow : ∀ e ∈ windows, WindowRow e := by
    simp only [windows, List.forall_mem_cons]
    refine ⟨?_, ?_, ?_, nofun⟩ <;> exact ⟨rfl, fun _ _ _ => rfl⟩
  have clamped {n : Byte} := exec_paramSet_clamped (s := s) (n := n) tag lo hi ht
  refine ⟨?_, ?_, ?_, ?_, ?_, ?_, ?_, ?_, ?_, ?_, ?_, ?_, ?_, ?_, ?_, ?_⟩
  iterate 7 exact clamped (by decide) (by decide) (by decide) (by decide)
  · intro m
    have number : (byteOf (19 + m.1)).toNat = 19 + m.1 := ReceivePaths.toNat_byteOf (by omega)
    have := clamped (n := byteOf (19 + m.1)) (by omega) (by omega) (by omega) (by omega)
    rw [write_requiredMer] at this
    exact this
  · intro e he
    have row := timingRow e he
    obtain ⟨h1, h9⟩ := of_decide_eq_true row.timing
    exact ⟨exec_paramSet_outside tag lo hi ht h1 (by omega) row.range, fun ha hb =>
      ⟨exec_paramSet_timing_wrongState tag lo hi row ht ha hb, exec_paramSet_timing_stored tag lo hi row ht ha hb⟩⟩
  · exact fun h => exec_paramSet_inside tag lo hi ht (by decide) (by decide) rfl (Nat.zero_le _) h
      fun h9 => absurd h9 (by decide)
  · exact fun h => exec_paramSet_outside tag lo hi ht (by decide) (by decide) rfl (.inr h)
  · exact fun n h => exec_paramSet_unlisted tag lo hi ht (h.imp_left (congrArg BitVec.toNat))
  · intro e he a b top
    have row := windowRow e he
    refine ⟨fun h => ?_, fun h hor => ?_, exec_paramSet_window_stored tag lo hi a b row ht⟩
    · exact exec_paramSet_window_range tag lo hi a b row ht (if_pos h) (by decide)
    · exact exec_paramSet_window_range tag lo hi a b row ht ((if_neg (Nat.not_lt.2 h)).trans (if_pos hor)) (by decide)
  · refine ⟨?_, fun hwf c => ?_⟩
    · exact exec_paramSet_item_limited ht (by simp) (paramItems_one lo hi rfl)
        (fault_one_of_clamped _ (by decide) (by decide) rfl) rfl nofun
    · exact retime_carrier (s := { s.hunts with params := _ }) hwf c
  · exact fun P => retime_eq { s.hunts with params := P }
  · intro l hl hcarried hlen
    have items := paramItems_flatMap_bytes hcarried
    refine ⟨fun hok hs => ?_, fun hf hn hs => ?_, fun hf htiming hs => ?_, fun l1 i l2 k hsplit hf hi hk => ?_⟩
    · exact exec_paramSet_stored ht hlen items hl (fun i h => (hok i h).1) (fun i h => (hok i h).2) hs
    · exact exec_paramSet_limited ht hlen items hf hn hs
    · exact exec_paramSet_wrongState ht hlen items hf htiming hs
    · exact exec_paramSet_range ht hlen items (hsplit ▸ failingField_append 1 hf hi) hk

end Sys2Proof.ParamSet

/-! PROOFS. ACCEPT (O50): the order in flight on a shelf that a valid reply has reached. -/
namespace Sys2Proof.Lines
open Sys2Proof.Machine

theorem accepted_of_awaitingAccept {f : Flight} (now : Stamp) (h : f.stage = .awaitingAccept) :
    f.accepted now = { f with stage := .awaitingDone, timerEnd := some (now + 4000) } := by
  simp only [Flight.accepted, h]; rfl

theorem accepted_of_awaitingDone {f : Flight} (now : Stamp) (h : f.stage = .awaitingDone) : f.accepted now = f := by
  simp only [Flight.accepted, h]

theorem heard_flying (x : Shelf) (tag : Byte) : x.heard.flying tag = x.flying tag := rfl

/-- An ACCEPT is a valid reply, so that its shelf is heard before the order in flight is looked at (R159, R163). -/
theorem exec_accept (s : State) (h : Fin 4) (tag : Byte) :
    exec (.accept h tag) s = .next ((s.shelfHunts h).shelfAccept h tag) := rfl

theorem exec_accept_of_flying {s : State} {h : Fin 4} {tag : Byte} {f : Flight}
    (hf : (s.shelf h).flying tag = some f) :
    exec (.accept h tag) s
      = .next (s.setShelf h { (s.shelf h).heard with inFlight := some (f.accepted s.clock) }) := by
  rw [exec_accept, State.shelfAccept, State.alive_hunts]
  simp only [State.shelf_setShelf_self, heard_flying, hf, State.setShelf_setShelf, State.setShelf_clock]

theorem exec_accept_of_not_flying {s : State} {h : Fin 4} {tag : Byte} (hf : (s.shelf h).flying tag = none) :
    exec (.accept h tag) s = .next (s.setShelf h (s.shelf h).heard) := by
  rw [exec_accept, State.shelfAccept, State.alive_hunts]
  simp only [State.shelf_setShelf_self, heard_flying, hf]

theorem flying_of_tag_eq {x : Shelf} {f : Flight} {tag : Byte} (hf : x.inFlight = some f) (ht : f.order.tag = tag) :
    x.flying tag = some f := by
  rw [Shelf.flying, hf, Option.bind_some, if_pos ht]

theorem flying_of_tag_ne {x : Shelf} {f : Flight} {tag : Byte} (hf : x.inFlight = some f) (ht : f.order.tag ≠ tag) :
    x.flying tag = none := by
  rw [Shelf.flying, hf, Option.bind_some, if_neg ht]

theorem flying_of_inFlight_eq_none {x : Shelf} {tag : Byte} (hf : x.inFlight = none) : x.flying tag = none := by
  rw [Shelf.flying, hf, Option.bind_none]

theorem heard_with_inFlight_self {x : Shelf} {f : Flight} (hf : x.inFlight = some f) :
    { x.heard with inFlight := some f } = x.heard := by
  rw [← hf]; rfl

/-- Settles O50: by the order in flight, its tag and its stage. -/
theorem acceptIsTaken : Obligations.AcceptIsTaken := by
  unfold Obligations.AcceptIsTaken
  intro s h tag x
  refine ⟨fun f hf ht => ⟨fun hs => ?_, fun hs => ?_⟩, fun f hf ht => ?_, fun hf => ?_⟩
  · rw [exec_accept_of_flying (flying_of_tag_eq hf ht), accepted_of_awaitingAccept _ hs]
  · rw [exec_accept_of_flying (flying_of_tag_eq hf ht), accepted_of_awaitingDone _ hs, heard_with_inFlight_self hf]
  · exact exec_accept_of_not_flying (flying_of_tag_ne hf ht)
  · exact exec_accept_of_not_flying (flying_of_inFlight_eq_none hf)

end Sys2Proof.Lines

/-! SUPPORT. A receiver over a run of characters (R154, R179): the characters of a frame on either line report nothing until
the last, which reports the frame or its discard (R180). -/
namespace Sys2Proof.Lines
open Sys2Proof.Machine

/-! ## Runs of characters -/

/-- The receiver comes from the first input to the second over the characters, and reports nothing. -/
def Passes (now : Stamp) : FrameInput → List LineChar → FrameInput → Prop
  | x, [], y => x = y
  | x, c :: l, y => (x.char now c).2 = .none ∧ Passes now (x.char now c).1 l y

/-- A hunting receiver reports the event at the last of the characters, nothing before it, and hunts again. -/
def Reports (now : Stamp) (l : List LineChar) (e : FrameEvent) : Prop :=
  ∃ init c y, l = init ++ [c] ∧ Passes now .hunting init y ∧ y.char now c = (.hunting, e)

theorem linkGap_of_hunting {s : State} (h : s.frameInput = .hunting) : s.linkGap = s := by
  simp [State.linkGap, FrameInput.gapped, h]

theorem shelfGap_of_hunting {s : State} {h : Fin 4} (hi : (s.shelf h).input = .hunting) : s.shelfGap h = s := by
  simp [State.shelfGap, FrameInput.gapped, hi]

theorem with_frameInput_self {s : State} {x : FrameInput} (h : s.frameInput = x) : { s with frameInput := x } = s := by
  rw [← h]

theorem setShelf_input_self {s : State} {h : Fin 4} {x : FrameInput} (hi : (s.shelf h).input = x) :
    s.setShelf h { s.shelf h with input := x } = s := by
  rw [← hi]; exact State.setShelf_shelf s h

theorem linkChar_eq (s : State) (c : LineChar) :
    s.linkChar c
      = ({ s with frameInput := (s.frameInput.char s.clock c).1 } : State).linkEvent (s.frameInput.char s.clock c).2 :=
  rfl

theorem shelfChar_eq (s : State) (h : Fin 4) (c : LineChar) :
    s.shelfChar h c
      = (s.setShelf h { s.shelf h with input := ((s.shelf h).input.char s.clock c).1 }).shelfEvent h
          ((s.shelf h).input.char s.clock c).2 := rfl

theorem foldl_linkChar_of_passes {l : List LineChar} {y : FrameInput} {s : State}
    (h : Passes s.clock s.frameInput l y) : l.foldl (fun s c => s.linkChar c) s = { s with frameInput := y } := by
  induction l generalizing s with
  | nil => exact (with_frameInput_self h).symm
  | cons c l ih =>
    obtain ⟨silent, rest⟩ := h
    have first : s.linkChar c = { s with frameInput := (s.frameInput.char s.clock c).1 } := by
      rw [linkChar_eq, silent]; rfl
    rw [List.foldl_cons, first, ih rest]

theorem foldl_shelfChar_of_passes {l : List LineChar} {y : FrameInput} {s : State} {h : Fin 4}
    (hp : Passes s.clock (s.shelf h).input l y) :
    l.foldl (fun s c => s.shelfChar h c) s = s.setShelf h { s.shelf h with input := y } := by
  induction l generalizing s with
  | nil => exact (setShelf_input_self hp).symm
  | cons c l ih =>
    obtain ⟨silent, rest⟩ := hp
    have first : s.shelfChar h c
        = s.setShelf h { s.shelf h with input := ((s.shelf h).input.char s.clock c).1 } := by
      rw [shelfChar_eq, silent]; rfl
    rw [List.foldl_cons, first, ih (by simpa using rest)]
    simp

/-- What a run of characters brings on the Control Link is what its receiver reports at the last. -/
theorem linkChars_of_reports {s : State} {l : List LineChar} {e : FrameEvent} (hi : s.frameInput = .hunting)
    (h : Reports s.clock l e) : s.linkChars l = s.linkEvent e := by
  obtain ⟨init, c, y, rfl, passes, last⟩ := h
  rw [← hi] at passes
  rw [State.linkChars, linkGap_of_hunting hi, List.foldl_append, foldl_linkChar_of_passes passes, List.foldl_cons,
    List.foldl_nil, linkChar_eq, last]
  exact congrArg (State.linkEvent e) (with_frameInput_self hi)

/-- What a run of characters brings on a Shelf Line is what its receiver reports at the last. -/
theorem shelfChars_of_reports {s : State} {h : Fin 4} {l : List LineChar} {e : FrameEvent}
    (hi : (s.shelf h).input = .hunting) (hr : Reports s.clock l e) : s.shelfChars h l = s.shelfEvent h e := by
  obtain ⟨init, c, y, rfl, passes, last⟩ := hr
  rw [← hi] at passes
  rw [State.shelfChars, shelfGap_of_hunting hi, List.foldl_append, foldl_shelfChar_of_passes passes, List.foldl_cons,
    List.foldl_nil, shelfChar_eq]
  simp only [State.shelf_setShelf_self, State.setShelf_clock, last, State.setShelf_setShelf]
  exact congrArg (State.shelfEvent h e) (setShelf_input_self hi)

/-! ## The bytes of a frame -/

theorem passes_gathering {now : Stamp} {l got : List Byte} (h : ∀ p, p <+: l → frameEvent (got ++ p) = none) :
    Passes now (.receiving got now) (goodChars l) (.receiving (got ++ l) now) := by
  induction l generalizing got with
  | nil => exact congrArg (FrameInput.receiving · now) (List.append_nil got).symm
  | cons b l ih =>
    have taken : (FrameInput.receiving got now).char now ⟨b, true⟩ = (.receiving (got ++ [b]) now, .none) := by
      simp [FrameInput.char, FrameInput.take, h [b] ⟨l, rfl⟩]
    have rest := ih (got := got ++ [b]) fun p hp => by
      rw [List.append_assoc]
      exact h (b :: p) (List.cons_prefix_cons.2 ⟨rfl, hp⟩)
    rw [List.append_assoc] at rest
    refine ⟨congrArg Prod.snd taken, ?_⟩
    change Passes now ((FrameInput.receiving got now).char now ⟨b, true⟩).1 (goodChars l) _
    rw [taken]
    exact rest

/-- The byte that completes a frame, or fails it, is the one at which its event is reported. -/
theorem reports_of_frameEvent {l : List Byte} {b : Byte} {e : FrameEvent} (now : Stamp)
    (hl : ∀ p, p <+: l → frameEvent p = none) (he : frameEvent (l ++ [b]) = some e) :
    Reports now (goodChars (0xA5 :: (l ++ [b]))) e := by
  refine ⟨goodChars (0xA5 :: l), ⟨b, true⟩, .receiving l now, by simp [goodChars], ⟨rfl, ?_⟩, ?_⟩
  · exact passes_gathering (got := []) hl
  · simp [FrameInput.char, FrameInput.take, he]

theorem frameEvent_of_length_lt_two {p : List Byte} (h : p.length < 2) : frameEvent p = none := by
  match p, h with
  | [], _ => rfl
  | [_], _ => rfl

/-- A frame of a length up to 1024 reports nothing before its last byte. -/
theorem frameEvent_of_prefix {n : Nat} {p l : List Byte} (hn : n ≤ 1024) (hp : p <+: le16 n ++ l)
    (hl : p.length < n + 6) : frameEvent p = none := by
  match p, hp with
  | [], _ => rfl
  | [_], _ => rfl
  | a :: b :: q, hp =>
    obtain ⟨rfl, rfl, -⟩ : a = byteOf n ∧ b = byteOf (n / 256) ∧ q <+: l := by
      simpa [le16, List.cons_prefix_cons] using hp
    have length : num16 (byteOf n) (byteOf (n / 256)) = n := ParamSet.num16_le16 (by omega)
    simp only [frameEvent, lengthOf, length, Config.maxBody, if_neg (Nat.not_lt.2 hn), if_neg (Nat.ne_of_lt hl)]

/-- A frame that is whole is taken or discarded by its check value (R180). -/
theorem frameEvent_whole (kind tag c0 c1 : Byte) {body : List Byte} (h : body.length ≤ 1024) :
    frameEvent (le16 body.length ++ kind :: tag :: body ++ [c0, c1])
      = some (if [c0, c1] = checkBytes (le16 body.length ++ kind :: tag :: body) then .frame kind tag body
          else .discard) := by
  have length : num16 (byteOf body.length) (byteOf (body.length / 256)) = body.length :=
    ParamSet.num16_le16 (by omega)
  have covered : (le16 body.length ++ kind :: tag :: body).length = body.length + 4 := by simp [le16]
  have whole : (le16 body.length ++ kind :: tag :: body ++ [c0, c1]).length = body.length + 6 := by simp [le16]
  have bodyLength : lengthOf (le16 body.length ++ kind :: tag :: body ++ [c0, c1]) = some body.length :=
    congrArg some length
  rw [frameEvent, bodyLength]
  simp only [Config.maxBody, if_neg (Nat.not_lt.2 h), if_pos whole]
  rw [← covered, List.take_left, List.drop_left]
  exact (apply_ite some _ _ _).symm

theorem reports_frame (now : Stamp) (kind tag c0 c1 : Byte) {body : List Byte} (h : body.length ≤ 1024) :
    Reports now (goodChars (0xA5 :: (le16 body.length ++ kind :: tag :: body ++ [c0, c1])))
      (if [c0, c1] = checkBytes (le16 body.length ++ kind :: tag :: body) then .frame kind tag body
        else .discard) := by
  have whole := frameEvent_whole kind tag c0 c1 h
  rw [show [c0, c1] = [c0] ++ [c1] from rfl, ← List.append_assoc] at whole ⊢
  refine reports_of_frameEvent now (fun p hp => ?_) whole
  have short : p.length < body.length + 6 := Nat.lt_of_le_of_lt hp.length_le (by simp [le16])
  exact frameEvent_of_prefix h (by simpa using hp) short

theorem reports_bad_check {now : Stamp} {kind tag c0 c1 : Byte} {body : List Byte} (h : body.length ≤ 1024)
    (hc : [c0, c1] ≠ checkBytes (le16 body.length ++ kind :: tag :: body)) :
    Reports now (goodChars ([0xA5] ++ (le16 body.length ++ kind :: tag :: body) ++ [c0, c1])) .discard := by
  have := reports_frame now kind tag c0 c1 h
  rwa [if_neg hc] at this

theorem reports_good_frame (now : Stamp) (kind tag : Byte) {body : List Byte} (h : body.length ≤ 1024) :
    Reports now (goodChars (frameBytes kind tag body)) (.frame kind tag body) := by
  obtain ⟨c0, c1, check⟩ : ∃ c0 c1, [c0, c1] = checkBytes (le16 body.length ++ kind :: tag :: body) := ⟨_, _, rfl⟩
  have := reports_frame now kind tag c0 c1 h
  rwa [if_pos check, check] at this

/-- A length above 1024 is discarded at its second byte. -/
theorem reports_overlong {now : Stamp} {l0 l1 : Byte} (h : 1024 < l0.toNat + 256 * l1.toNat) :
    Reports now (goodChars [0xA5, l0, l1]) .discard := by
  refine reports_of_frameEvent (l := [l0]) now (fun p hp => ?_) ?_
  · exact frameEvent_of_length_lt_two (Nat.lt_succ_of_le hp.length_le)
  · simp only [List.cons_append, List.nil_append, frameEvent, lengthOf, num16, Config.maxBody, if_pos h]

end Sys2Proof.Lines

/-! PROOFS. Frames that are discarded on either line, and the sending of a reply (O13). -/
namespace Sys2Proof.Lines
open Sys2Proof.Machine

/-! ## Discards on the Control Link (R181) -/

theorem errorOwed_iff (s : State) :
    s.errorOwed = true ↔ (∃ x ∈ s.replies, x.code = .frameError) ∨ .frameError ∈ s.waiting := by
  rw [← Bool.not_eq_false, State.errorOwed_eq_false]
  simp only [Classical.not_and_iff_not_or_not, Classical.not_forall, ne_eq, Classical.not_not, exists_prop]

theorem discardFrame_eq (s : State) : s.discardFrame = s.discards := by
  unfold State.discards
  split
  · exact State.discardFrame_owed ((errorOwed_iff s).2 ‹_›)
  · have unowed : s.errorOwed = false := Bool.not_eq_true _ ▸ mt (errorOwed_iff s).1 ‹_›
    rw [State.discardFrame_unowed unowed]
    split
    · exact State.oweError_nil ‹_›
    · exact State.oweError_waits ‹_›

theorem linkGap_of_late {s : State} {got : List Byte} {last : Stamp} (hi : s.frameInput = .receiving got last)
    (h : 20 < (s.clock - last).toNat) : s.linkGap = ({ s with frameInput := .hunting } : State).discards := by
  have late : s.frameInput.gapped s.clock = true := by rw [hi]; exact decide_eq_true h
  rw [State.linkGap, if_pos late, discardFrame_eq]

theorem linkGap_of_prompt {s : State} {got : List Byte} {last : Stamp} (hi : s.frameInput = .receiving got last)
    (h : (s.clock - last).toNat ≤ 20) : s.linkGap = s := by
  have prompt : s.frameInput.gapped s.clock = false := by rw [hi]; exact decide_eq_false (Nat.not_lt.2 h)
  rw [State.linkGap, prompt]; rfl

theorem discards_frameInput (s : State) : s.discards.frameInput = s.frameInput := by
  unfold State.discards
  split
  · rfl
  · split <;> rfl

theorem linkChar_spoiled_of_hunting {s : State} (b : Byte) (hi : s.frameInput = .hunting) :
    s.linkChar ⟨b, false⟩ = s := by
  rw [linkChar_eq, hi]; exact with_frameInput_self hi

/-- A receiver that hunts passes a bad stop bit over. -/
theorem linkChars_spoiled_of_hunting {s : State} (b : Byte) (hi : s.frameInput = .hunting) :
    s.linkChars [⟨b, false⟩] = s := by
  change s.linkGap.linkChar ⟨b, false⟩ = s
  rw [linkGap_of_hunting hi, linkChar_spoiled_of_hunting b hi]

/-- A bad stop bit within a frame discards it, also where the gap has discarded it before (R179). -/
theorem linkChars_spoiled {s : State} {got : List Byte} {last : Stamp} (b : Byte)
    (hi : s.frameInput = .receiving got last) :
    s.linkChars [⟨b, false⟩] = ({ s with frameInput := .hunting } : State).discards := by
  change s.linkGap.linkChar ⟨b, false⟩ = _
  by_cases late : 20 < (s.clock - last).toNat
  · rw [linkGap_of_late hi late, linkChar_spoiled_of_hunting b (discards_frameInput _)]
  · rw [linkGap_of_prompt hi (Nat.not_lt.1 late), linkChar_eq, hi]
    exact discardFrame_eq _

theorem linkChars_first_byte {s : State} {last : Stamp} (b : Byte) (hi : s.frameInput = .receiving [] last)
    (h : (s.clock - last).toNat ≤ 20) :
    s.linkChars [⟨b, true⟩] = { s with frameInput := .receiving [b] s.clock } := by
  change s.linkGap.linkChar ⟨b, true⟩ = _
  rw [linkGap_of_prompt hi h, linkChar_eq, hi]; rfl

/-! ## Discards on a Shelf Line (R154) -/

theorem shelfGap_of_late {s : State} {h : Fin 4} {got : List Byte} {last : Stamp}
    (hi : (s.shelf h).input = .receiving got last) (hl : 20 < (s.clock - last).toNat) :
    s.shelfGap h = s.shelfHunts h := by
  have late : (s.shelf h).input.gapped s.clock = true := by rw [hi]; exact decide_eq_true hl
  rw [State.shelfGap, if_pos late]

theorem shelfGap_of_prompt {s : State} {h : Fin 4} {got : List Byte} {last : Stamp}
    (hi : (s.shelf h).input = .receiving got last) (hl : (s.clock - last).toNat ≤ 20) : s.shelfGap h = s := by
  have prompt : (s.shelf h).input.gapped s.clock = false := by rw [hi]; exact decide_eq_false (Nat.not_lt.2 hl)
  rw [State.shelfGap, prompt]; rfl

theorem shelfHunts_input (s : State) (h : Fin 4) : ((s.shelfHunts h).shelf h).input = .hunting := by
  rw [State.shelfHunts, State.shelf_setShelf_self]

/-- A late frame on a Shelf Line is discarded before the characters are taken. -/
theorem shelfChars_late {s : State} {h : Fin 4} {got : List Byte} {last : Stamp}
    (hi : (s.shelf h).input = .receiving got last) (hl : 20 < (s.clock - last).toNat) (chars : List LineChar) :
    s.shelfChars h chars = (s.shelfHunts h).shelfChars h chars := by
  rw [State.shelfChars, State.shelfChars, shelfGap_of_late hi hl, shelfGap_of_hunting (shelfHunts_input s h)]

theorem shelfChar_spoiled_of_hunting {s : State} {h : Fin 4} (b : Byte) (hi : (s.shelf h).input = .hunting) :
    s.shelfChar h ⟨b, false⟩ = s := by
  rw [shelfChar_eq, hi]; exact setShelf_input_self hi

theorem shelfChars_spoiled_of_hunting {s : State} {h : Fin 4} (b : Byte) (hi : (s.shelf h).input = .hunting) :
    s.shelfChars h [⟨b, false⟩] = s := by
  change (s.shelfGap h).shelfChar h ⟨b, false⟩ = s
  rw [shelfGap_of_hunting hi, shelfChar_spoiled_of_hunting b hi]

theorem shelfChars_spoiled {s : State} {h : Fin 4} {got : List Byte} {last : Stamp} (b : Byte)
    (hi : (s.shelf h).input = .receiving got last) : s.shelfChars h [⟨b, false⟩] = s.shelfHunts h := by
  change (s.shelfGap h).shelfChar h ⟨b, false⟩ = _
  by_cases late : 20 < (s.clock - last).toNat
  · rw [shelfGap_of_late hi late, shelfChar_spoiled_of_hunting b (shelfHunts_input s h)]
  · rw [shelfGap_of_prompt hi (Nat.not_lt.1 late), shelfChar_eq, hi]; rfl

theorem shelfChars_first_byte {s : State} {h : Fin 4} {last : Stamp} (b : Byte)
    (hi : (s.shelf h).input = .receiving [] last) (hl : (s.clock - last).toNat ≤ 20) :
    s.shelfChars h [⟨b, true⟩] = s.setShelf h { s.shelf h with input := .receiving [b] s.clock } := by
  change (s.shelfGap h).shelfChar h ⟨b, true⟩ = _
  rw [shelfGap_of_prompt hi hl, shelfChar_eq, hi]; rfl

/-- A kind and a body length that some shelf reply has (Table 13-10). -/
def ReplyShape (kind : Byte) (length : Nat) : Prop :=
  (kind = 0x81 ∨ kind = 0x85) ∧ length = 0 ∨ (kind = 0x82 ∨ kind = 0x84) ∧ length = 1 ∨ kind = 0x83 ∧ length = 2

theorem shelfReply_of_eq_none {kind : Byte} {body : List Byte} (tag : Byte) (h : ¬ ReplyShape kind body.length) :
    ShelfReply.of kind tag body = none := by
  match body, h with
  | [], h =>
    obtain ⟨h1, h5⟩ : kind ≠ 0x81 ∧ kind ≠ 0x85 := by simpa [ReplyShape] using h
    simp only [ShelfReply.of, if_neg h1, if_neg h5]
  | [o], h =>
    obtain ⟨h2, h4⟩ : kind ≠ 0x82 ∧ kind ≠ 0x84 := by simpa [ReplyShape] using h
    simp only [ShelfReply.of, if_neg h2, if_neg h4, Option.bind_fun_none]
  | [o, r], h =>
    have h3 : kind ≠ 0x83 := by simpa [ReplyShape] using h
    simp only [ShelfReply.of, if_neg h3, Option.bind_fun_none]
  | _ :: _ :: _ :: _, _ => rfl

/-- A good frame that is no shelf reply leaves no trace (R154). -/
theorem shelfFrame_of_no_reply {kind : Byte} {body : List Byte} (s : State) (h : Fin 4) (tag : Byte)
    (hr : ¬ ReplyShape kind body.length) : s.shelfFrame h kind tag body = s := by
  rw [State.shelfFrame, shelfReply_of_eq_none tag hr]

/-! ## Requests after a late frame (R179) -/

/-- A request command is the completion of a frame of its kind (R182). -/
theorem exec_of_requestOf {c : Instr} {r : Request} (s : State) (h : requestOf c = some r) :
    exec c s = .next (s.request r.kind r.tag r.body) := by
  cases c <;> cases h <;> rfl

/-- A request that completes finds a late frame discarded already, or discards it first, to the same effect. -/
theorem request_linkGap {s : State} (h : s.linkGap.frameInput = .hunting) (kind tag : Byte) (body : List Byte) :
    s.linkGap.request kind tag body = s.request kind tag body := by
  unfold State.request
  rw [linkGap_of_hunting h]

/-- Settles O13: a bad check value, a length above 1024, a bad stop bit, a late byte, and a reply that is sent. -/
theorem badFramesAreDiscarded : Obligations.BadFramesAreDiscarded := by
  unfold Obligations.BadFramesAreDiscarded
  refine ⟨fun kind tag c0 c1 l0 l1 body h s hb => ?_, fun b h s => ?_, fun s => ?_⟩
  · intro bad long good reply
    have link {chars : List Byte} (hr : Reports s.clock (goodChars chars) .discard) (hi : s.frameInput = .hunting) :
        exec (.frameError (goodChars chars)) s = .next s.discards :=
      congrArg Host.Outcome.next ((linkChars_of_reports hi hr).trans (discardFrame_eq s))
    have shelf {chars : List Byte} (hr : Reports s.clock (goodChars chars) .discard)
        (hi : (s.shelf h).input = .hunting) : exec (.shelfFrameDiscard h (goodChars chars)) s = .next s :=
      congrArg Host.Outcome.next (shelfChars_of_reports hi hr)
    refine ⟨fun hc => ⟨link (reports_bad_check hb hc), shelf (reports_bad_check hb hc)⟩,
      fun hl => ⟨link (reports_overlong hl), shelf (reports_overlong hl)⟩, fun hi hr => ?_⟩
    have frame := shelfChars_of_reports hi (reports_good_frame s.clock kind tag hb)
    exact congrArg Host.Outcome.next (frame.trans (shelfFrame_of_no_reply s h tag hr))
  · intro x
    refine ⟨fun hi => ?_, fun got last hi => ⟨?_, ?_⟩, fun hi => ?_, fun got last hi => ⟨?_, ?_, ?_⟩⟩
    · exact congrArg Host.Outcome.next (linkChars_spoiled_of_hunting b hi)
    · exact congrArg Host.Outcome.next (linkChars_spoiled b hi)
    · rintro hl rfl
      exact congrArg Host.Outcome.next (linkChars_first_byte b hi hl)
    · exact congrArg Host.Outcome.next (shelfChars_spoiled_of_hunting b hi)
    · exact congrArg Host.Outcome.next (shelfChars_spoiled b hi)
    · rintro hl rfl
      exact congrArg Host.Outcome.next (shelfChars_first_byte b hi hl)
    · exact fun hl chars => congrArg Host.Outcome.next (shelfChars_late hi hl chars)
  · refine ⟨fun got last hi hl => ⟨?_, ?_⟩, fun got last hi hl => ?_, fun hi => ?_, rfl, fun r rest hr => ?_⟩
    · exact congrArg Host.Outcome.next (linkGap_of_late hi hl)
    · rintro c r u hc ⟨⟩
      have hunting : s.linkGap.frameInput = .hunting := by rw [linkGap_of_late hi hl, discards_frameInput]
      rw [exec_of_requestOf _ hc, exec_of_requestOf _ hc, request_linkGap hunting]
    · exact congrArg Host.Outcome.next (linkGap_of_prompt hi hl)
    · exact congrArg Host.Outcome.next (linkGap_of_hunting hi)
    · rw [State.linkFrame, hr]; rfl

end Sys2Proof.Lines

/-! SUPPORT. What the requests leave of the Control Link (R181, R182): each request of Table 13-2 but RESTART leaves the
replies owed, what waits for a restart and the restart accepted as they are. -/
namespace Sys2Proof.Restart
open Sys2Proof.Machine

/-- The replies owed, what waits for a restart, and the restart accepted. -/
def ledger (s : State) : List Reply × List Awaiting × Option RestartScope := (s.replies, s.waiting, s.restarting)

theorem ledger_of_sweepFrame {a : Bool} {s t : State} (h : SweepFrame a s t) : ledger t = ledger s := by
  rw [ledger, h.replies, h.waiting, h.restarting, ledger]

theorem ledger_of_lineupFrame {s t : State} (h : LineupFrame s t) : ledger t = ledger s := by
  rw [ledger, h.replies, h.waiting, h.restarting, ledger]

theorem ledger_foldl {α : Type} {f : State → α → State} (h : ∀ s x, ledger (f s x) = ledger s) (l : List α) (s : State) :
    ledger (l.foldl f s) = ledger s := by
  induction l generalizing s with
  | nil => rfl
  | cons x l ih => rw [List.foldl_cons, ih, h]

/-! ## The operations shared by requests -/

@[simp] theorem ledger_setCarrier (s : State) (c : Nat) (x : Carrier) : ledger (s.setCarrier c x) = ledger s := rfl
@[simp] theorem ledger_setService (s : State) (k : Nat) (x : Service) : ledger (s.setService k x) = ledger s := rfl
@[simp] theorem ledger_setFeed (s : State) (f : Fin 6) (x : Feed) : ledger (s.setFeed f x) = ledger s := rfl
@[simp] theorem ledger_setPath (s : State) (p : Fin 8) (x : Path) : ledger (s.setPath p x) = ledger s := rfl
@[simp] theorem ledger_setSweep (s : State) (n : Fin 8) (x : SweepList) : ledger (s.setSweep n x) = ledger s := rfl
@[simp] theorem ledger_setSlot (s : State) (i : Fin 64) (x : Slot) : ledger (s.setSlot i x) = ledger s := rfl
@[simp] theorem ledger_setShelf (s : State) (h : Fin 4) (x : Shelf) : ledger (s.setShelf h x) = ledger s := rfl
theorem ledger_setRecheckQueue (s : State) (q : List Recheck) : ledger { s with recheckQueue := q } = ledger s := rfl
theorem ledger_setSlots_services (s : State) (x : Vector Slot 64) (y : Store Service) :
    ledger { s with slots := x, services := y } = ledger s := rfl
@[simp] theorem ledger_enqueue (s : State) (h : Fin 4) (o : Fin 16) (k : OrderKind) :
    ledger (s.enqueue h o k) = ledger s := rfl

@[simp] theorem ledger_post (s : State) (k : NoticeKind) (o : Nat) (d : List Byte) : ledger (s.post k o d) = ledger s :=
  ledger_of_lineupFrame (State.post_lineup k o d s)
@[simp] theorem ledger_runEngine (s : State) : ledger s.runEngine = ledger s :=
  ledger_of_sweepFrame (a := true) (State.runEngine_frame s)
@[simp] theorem ledger_takeRelease (s : State) (p : Fin 8) : ledger (s.takeRelease p) = ledger s :=
  ledger_of_sweepFrame (a := true) (State.takeRelease_frame p s)
@[simp] theorem ledger_leaveList (s : State) (n : Fin 8) : ledger (s.leaveList n) = ledger s :=
  ledger_of_sweepFrame (a := true) (State.leaveList_frame n s)
@[simp] theorem ledger_setMode (s : State) (p : Fin 8) (m : PathMode) : ledger (s.setMode p m) = ledger s :=
  ledger_of_sweepFrame (a := true) (State.setMode_frame p m s)
@[simp] theorem ledger_handReports (s : State) (l : List RankReport) : ledger (s.handReports l) = ledger s :=
  ledger_of_lineupFrame (State.handReports_frame l s)
@[simp] theorem ledger_reportServices (s : State) (l : List Nat) (k : RankCause) (c : Option Nat) :
    ledger (s.reportServices l k c) = ledger s := ledger_of_lineupFrame (State.reportServices_frame l k c s)
@[simp] theorem ledger_reportCarrier (s : State) (c : Nat) (k : RankCause) (b : Reception) :
    ledger (s.reportCarrier c k b) = ledger s := ledger_of_lineupFrame (State.reportCarrier_frame c k b s)
@[simp] theorem ledger_evaluate (s : State) (i : Fin 64) (ev : Option RankReport) :
    ledger (s.evaluate i ev).1 = ledger s := ledger_of_lineupFrame (State.evaluate_frame i ev s)
@[simp] theorem ledger_letGo (s : State) (n : Option CandName) : ledger (s.letGo n).1 = ledger s :=
  ledger_of_lineupFrame (State.letGo_frame n s)
@[simp] theorem ledger_freeCandidate (s : State) (n : CandName) : ledger (s.freeCandidate n) = ledger s :=
  ledger_of_lineupFrame (State.freeCandidate_frame n s)
@[simp] theorem ledger_dropEmpty (s : State) (k : Nat) : ledger (s.dropEmpty k) = ledger s :=
  ledger_of_lineupFrame (State.dropEmpty_frame k s)

/-! ## The plan -/

theorem ledger_replanned (s : State) (c : Nat) : ledger (s.replanned c) = ledger s := by
  unfold State.replanned
  split <;> simp

theorem ledger_releaseCandidate (s : State) (n : CandName) : ledger (s.releaseCandidate n) = ledger s := by
  unfold State.releaseCandidate State.reviseCandidate
  split
  · split
    · rfl
    · split <;> simp
  · simp

theorem ledger_releaseCandidates (s : State) (c : Nat) : ledger (s.releaseCandidates c) = ledger s :=
  ledger_foldl (fun s _ => ledger_releaseCandidate s _) _ s

theorem ledger_freeCandidates (s : State) (c : Nat) : ledger (s.freeCandidates c) = ledger s :=
  ledger_foldl (fun s _ => ledger_freeCandidate s _) _ s

theorem ledger_putPlan (s : State) (c : Nat) (p : Plan) : ledger (s.putPlan c p) = ledger s := by
  unfold State.putPlan
  split
  · rfl
  · split
    · simp [State.retuned, ledger_replanned, ledger_releaseCandidates]
    · split
      · simp [ledger_replanned]
      · unfold State.reEnable
        split <;> simp

theorem ledger_disableCarrier (s : State) (c : Nat) (x : Carrier) : ledger (s.disableCarrier c x) = ledger s := by
  rw [State.disableCarrier, ledger_runEngine, ledger_reportServices, ledger_foldl]
  · rfl
  · intro t p
    split <;> simp

theorem ledger_eraseCarrier (s : State) (c : Nat) : ledger (s.eraseCarrier c) = ledger s := by
  change ledger ((s.freeCandidates c).reportServices (s.servicesOn c) .erased (some c)) = ledger s
  rw [ledger_reportServices, ledger_freeCandidates]

theorem ledger_setFeedUp (s : State) (o : FeedSetting) : ledger (s.setFeedUp o) = ledger s := by
  unfold State.setFeedUp
  dsimp only
  split <;> simp

/-! ## Parameters -/

theorem ledger_retimeCarrier (s : State) (c : Nat) : ledger (s.retimeCarrier c) = ledger s := by
  rw [ParamSet.retimeCarrier_eq]
  obtain ⟨u, frame, ⟨rfl, -⟩ | ⟨x, -, rfl⟩⟩ := ParamSet.retimeOne_cases s.clock s.params.staleLimit s c
  · exact ledger_of_lineupFrame frame
  · exact (ledger_of_lineupFrame frame).trans (ledger_setCarrier s c _)

theorem ledger_writeParams (s : State) (l : List ParamItem) : ledger (s.writeParams l) = ledger s := by
  unfold State.writeParams
  dsimp only
  split
  · exact ledger_foldl ledger_retimeCarrier _ _
  · rfl

/-! ## Paths, lists and the survey -/

theorem ledger_askMode (s : State) (p : Fin 8) (m : PathMode) : ledger (s.askMode p m) = ledger s := by
  unfold State.askMode
  split
  · rfl
  · split
    · simp
    · unfold State.pendMode
      dsimp only
      split <;> simp

theorem ledger_enterSurvey (s : State) (x : SurveyState) (c : SurveyCause) : ledger (s.enterSurvey x c) = ledger s := by
  rw [State.enterSurvey, ledger_post]; rfl

theorem ledger_mapLists (s : State) (f : Fin 8 → SweepList → SweepList) : ledger (s.mapLists f) = ledger s :=
  ledger_foldl (fun t n => ledger_setSweep t n _) _ s

theorem ledger_startSurvey (s : State) : ledger s.startSurvey = ledger s := by
  rw [State.startSurvey, ledger_runEngine, ledger_mapLists, ledger_enterSurvey]

theorem ledger_pauseSurvey (s : State) : ledger s.pauseSurvey = ledger s := by
  rw [State.pauseSurvey, ledger_mapLists, ledger_enterSurvey]

theorem ledger_resumeSurvey (s : State) : ledger s.resumeSurvey = ledger s := by
  rw [State.resumeSurvey, ledger_runEngine, ledger_mapLists, ledger_enterSurvey]

theorem ledger_releaseListPaths (s : State) : ledger s.releaseListPaths = ledger s :=
  ledger_foldl (fun s p => by split <;> simp) _ s

theorem ledger_stopSurvey (s : State) : ledger s.stopSurvey = ledger s := by
  simp only [State.stopSurvey, ledger_runEngine, ledger_releaseListPaths, ledger_setRecheckQueue, ledger_mapLists,
    ledger_enterSurvey]

/-! ## Services -/

theorem ledger_trimMerged (s : State) (key : Nat) : ledger (s.trimMerged key) = ledger s := by
  unfold State.trimMerged
  dsimp only
  split
  · rfl
  · rw [ledger_post, ledger_foldl fun t y => ledger_freeCandidate t _]

theorem ledger_merge (s : State) (found key : Nat) (f : Service) : ledger (s.merge found key f) = ledger s := by
  simp only [State.merge, ledger_reportServices, ledger_setSlots_services, ledger_trimMerged,
    ledger_setService]

theorem ledger_bindPair (s : State) (p : Pair) (key : Nat) : ledger (s.bindPair p key) = ledger s := by
  unfold State.bindPair
  dsimp only
  split
  · split
    · exact ledger_merge _ _ _ _
    · rfl
  · split <;> rfl

theorem ledger_dropService (s : State) (key : Nat) : ledger (s.dropService key) = ledger s :=
  ledger_foldl (fun s n => ledger_freeCandidate s n) _ { s with bindings := _ }

/-! ## Slots -/

theorem ledger_giveOrder (s : State) (i : Fin 64) (n : CandName) (r : OrderReason) :
    ledger (s.giveOrder i n r) = ledger s := by
  unfold State.giveOrder State.handSet
  split <;> simp

theorem ledger_unbound (s : State) (b : Option SlotBinding) : ledger (s.unbound b) = ledger s := by
  unfold State.unbound
  split <;> simp

theorem ledger_settleReports (x : State × List RankReport) : ledger (State.settleReports x) = ledger x.1 :=
  ledger_handReports x.1 x.2

theorem ledger_setSlotUp (s : State) (o : SlotSetting) : ledger (s.setSlotUp o) = ledger s := by
  simp [State.setSlotUp, ledger_unbound]

theorem ledger_clearSlot (s : State) (i : Fin 64) : ledger (s.clearSlot i) = ledger s := by
  unfold State.clearSlot
  dsimp only
  split
  · rfl
  · simp [ledger_unbound, State.handClear]

theorem ledger_pinSlot (s : State) (i : Fin 64) (n : CandName) : ledger (s.pinSlot i n) = ledger s := by
  unfold State.pinSlot
  dsimp only
  split <;> simp [ledger_giveOrder]

theorem ledger_unpinSlot (s : State) (i : Fin 64) : ledger (s.unpinSlot i) = ledger s := by
  unfold State.unpinSlot
  dsimp only
  split <;> simp [ledger_settleReports]

theorem ledger_resumeSlot (s : State) (i : Fin 64) : ledger (s.resumeSlot i) = ledger s := by
  simp [State.resumeSlot, ledger_settleReports]

/-! ## The handlers -/

theorem ledger_carryOut {α : Type} {act : α → State → Answer × State} {s : State} (c : Checked α)
    (h : ∀ x, ledger (act x s).2 = ledger s) : ledger (carryOut c act s).2 = ledger s := by
  cases c with
  | error a => rfl
  | ok x => exact h x

theorem ledger_carryOutOk {α : Type} {act : α → State → State} {s : State} (c : Checked α)
    (h : ∀ x, ledger (act x s) = ledger s) : ledger (carryOutOk c act s).2 = ledger s := ledger_carryOut c h

theorem ledger_handlePlanDisable (body : List Byte) (s : State) : ledger (handlePlanDisable body s).2 = ledger s := by
  refine ledger_carryOutOk _ fun c => ?_
  split
  · split
    · exact ledger_disableCarrier s c _
    · rfl
  · rfl

theorem ledger_fieldByte (s : State) (n : Nat) : ledger (s.fieldByte n).2 = ledger s := by
  unfold State.fieldByte
  split <;> rfl

theorem ledger_handleParamSet (body : List Byte) (s : State) : ledger (handleParamSet body s).2 = ledger s := by
  unfold handleParamSet
  split
  · rfl
  · rfl
  · split
    · exact ledger_fieldByte s _
    · split
      · rfl
      · exact ledger_writeParams s _

theorem ledger_handleParamGet (body : List Byte) (s : State) : ledger (handleParamGet body s).2 = ledger s := by
  unfold handleParamGet
  split <;> rfl

theorem ledger_handleListWrite (body : List Byte) (s : State) : ledger (handleListWrite body s).2 = ledger s := by
  unfold handleListWrite State.runRange
  split
  · dsimp only
    split
    · rfl
    · split
      · rfl
      · split
        · rfl
        · split
          · rfl
          · split
            · rfl
            · split <;> rfl
  · rfl

theorem ledger_handleReadStatus (body : List Byte) (s : State) : ledger (handleReadStatus body s).2 = ledger s := by
  unfold handleReadStatus
  split <;> rfl

theorem ledger_fetchNotices (s : State) (n : Nat) : ledger (s.fetchNotices n).2 = ledger s := by
  unfold State.fetchNotices
  dsimp only
  split <;> rfl

/-- A handler other than RESTART's leaves the ledger as it is: the kinds one by one, in the order of Table 13-2. -/
theorem ledger_handler {kind : Byte} {h : List Byte → State → Answer × State} (hk : handlerOf kind = some h)
    (hr : kind ≠ 0x34) (body : List Byte) (s : State) : ledger (h body s).2 = ledger s := by
  unfold handlerOf at hk
  split at hk <;> cases hk
  · exact ledger_carryOutOk _ fun o => ledger_putPlan s o.1 o.2
  · exact ledger_handlePlanDisable body s
  · exact ledger_carryOutOk _ (ledger_eraseCarrier s)
  · exact ledger_carryOutOk _ (ledger_setFeedUp s)
  · exact ledger_carryOutOk _ fun o => ledger_setFeed s o.1 _
  · exact ledger_handleParamSet body s
  · exact ledger_handleParamGet body s
  · exact ledger_handleListWrite body s
  · exact ledger_carryOutOk _ fun o => ledger_setSweep s o.1 _
  · exact ledger_carryOutOk _ fun o => (ledger_runEngine _).trans (ledger_setSweep s o.1 _)
  · exact ledger_carryOutOk _ fun o => ledger_askMode s o.1 o.2
  · exact ledger_carryOutOk _ fun o => ledger_of_sweepFrame (a := true) (State.tune_frame o.1 o.2 _ _ s)
  · exact ledger_carryOutOk _ fun o => ledger_of_sweepFrame (a := true) (State.takeMeasure_frame o.1 o.2 s)
  · exact ledger_carryOutOk _ (ledger_takeRelease s)
  · exact ledger_carryOutOk _ fun o => ledger_of_sweepFrame (State.requestRecheck_frame o.1 o.2.1 o.2.2 _ s)
  · exact ledger_carryOutOk _ fun _ => ledger_startSurvey s
  · exact ledger_carryOutOk _ fun _ => ledger_pauseSurvey s
  · exact ledger_carryOutOk _ fun _ => ledger_resumeSurvey s
  · exact ledger_carryOutOk _ fun _ => ledger_stopSurvey s
  · exact absurd (BitVec.eq_of_toNat_eq ‹_›) hr
  · exact ledger_carryOutOk _ fun o => ledger_bindPair s o.1 o.2
  · exact ledger_carryOutOk _ fun _ => rfl
  · exact ledger_carryOutOk _ (ledger_dropService s)
  · exact ledger_carryOutOk _ (ledger_setSlotUp s)
  · exact ledger_carryOutOk _ (ledger_clearSlot s)
  · exact ledger_carryOutOk _ fun o => ledger_pinSlot s o.1 o.2
  · exact ledger_carryOutOk _ (ledger_unpinSlot s)
  · exact ledger_carryOutOk _ (ledger_resumeSlot s)
  iterate 7 exact rfl
  · exact ledger_handleReadStatus body s
  · exact ledger_carryOut _ (ledger_fetchNotices s)
  · exact ledger_carryOut _ fun _ => rfl

end Sys2Proof.Restart

/-! PROOFS. RESTART waits for its reply, RESTART_ALL, and the requests that waited for it (O41). -/
namespace Sys2Proof.Restart
open Sys2Proof.Machine

/-! ## RESTART accepted -/

theorem restartScope_ofCode_eq_none {b : Byte} (h : 1 < b.toNat) : RestartScope.ofCode b = none := by
  have n0 : b ≠ 0 := by rintro rfl; exact absurd h (by decide)
  have n1 : b ≠ 1 := by rintro rfl; exact absurd h (by decide)
  rw [RestartScope.ofCode, if_neg n0, if_neg n1]

theorem exec_restart_ok {s : State} {tag b : Byte} {scope : RestartScope} (ht : s.takes = true)
    (hb : RestartScope.ofCode b = some scope) :
    exec (.restart tag [b]) s
      = .next (({ s.hunts with restarting := some scope } : State).owe 0xB4 tag ⟨.ok, []⟩) := by
  have check : checkRestart [b] = .ok scope := by rw [checkRestart, hb]; rfl
  exact congrArg Host.Outcome.next
    (ReceivePaths.request_carriedOut (kind := 0x34) (check := fun body _ => checkRestart body) ht (by simp) rfl check)

theorem exec_restart_range {s : State} {tag b : Byte} (ht : s.takes = true) (hb : 1 < b.toNat) :
    exec (.restart tag [b]) s = .next (s.hunts.owe 0xB4 tag ⟨.outOfRange, [1]⟩) := by
  have check : checkRestart [b] = .error (Answer.range 1) := by
    rw [checkRestart, restartScope_ofCode_eq_none hb]; rfl
  exact congrArg Host.Outcome.next
    (ReceivePaths.request_refused (kind := 0x34) (check := fun body _ => checkRestart body) ht (by simp) rfl check)

/-! ## RESTART carried out -/

/-- No restart is due while the OK reply to it waits to be sent (R176). -/
theorem restartDue_of_reply_owed {u : State} {r : Reply} (scope : RestartScope) (hr : r ∈ u.replies)
    (hk : r.kind = 0xB4) (hc : r.code = .ok) : u.restartDue scope = false := by
  have owed : (u.replies.any fun r => decide (r.kind = replyKind 0x34 ∧ r.code = .ok)) = true :=
    List.any_eq_true.2 ⟨r, hr, decide_eq_true ⟨hk, hc⟩⟩
  rw [State.restartDue, owed, Bool.not_true, Bool.and_false]

theorem restartDue_of_reply_sent {s : State} {scope : RestartScope} (hs : s.restarting = some scope)
    (hr : ∀ r ∈ s.replies, ¬ (r.kind = 0xB4 ∧ r.code = .ok)) : s.restartDue scope = true := by
  have sent : (s.replies.any fun r => decide (r.kind = replyKind 0x34 ∧ r.code = .ok)) = false :=
    List.any_eq_false.2 fun r h => mt of_decide_eq_true (hr r h)
  rw [State.restartDue, sent, decide_eq_true hs]; rfl

theorem carryRestart_of_not_due {u : State} {scope : RestartScope} (act : State → State)
    (h : u.restartDue scope = false) : u.carryRestart scope act = u := by
  simp [State.carryRestart, h]

theorem carryRestart_of_due {s : State} {scope : RestartScope} (act : State → State) (h : s.restartDue scope = true) :
    s.carryRestart scope act = State.takeWaiting (act s).waiting { act s with restarting := none } := by
  simp [State.carryRestart, h]

theorem isRequest_eq (a : Awaiting) : a.isRequest = decide (a ≠ .frameError) := by
  cases a <;> rfl

/-- RESTART_ALL once its reply has been sent: cold start but for the Control Link, and the requests that waited (R178). -/
theorem exec_restartAll {s : State} (hs : s.restarting = some .all)
    (hr : ∀ r ∈ s.replies, ¬ (r.kind = 0xB4 ∧ r.code = .ok)) :
    exec .restartAll s
      = .next (State.takeWaiting (s.waiting.filter fun a => decide (a ≠ .frameError))
          { State.reset with
            pending := s.pending, freeCount := s.freeCount
            waiting := s.waiting.filter fun a => decide (a ≠ .frameError)
            frameInput := s.frameInput.kept s.clock
            replies := s.replies.filter fun r => decide (r.code ≠ .frameError) }) := by
  have requests : s.waiting.filter Awaiting.isRequest = s.waiting.filter fun a => decide (a ≠ .frameError) :=
    congrArg (List.filter · s.waiting) (funext isRequest_eq)
  have carried := carryRestart_of_due State.restartAll (restartDue_of_reply_sent hs hr)
  change Host.Outcome.next (s.carryRestart .all State.restartAll) = _
  rw [carried, State.restartAll, requests]
  rfl

/-! ## The requests that waited -/

theorem takeWaiting_request_of_restarting {s : State} (r : Request) (rest : List Awaiting) (h : s.restarting ≠ none) :
    s.takeWaiting (.request r :: rest) = s := by
  rw [State.takeWaiting, if_pos (Option.isSome_iff_ne_none.2 h)]

theorem takeWaiting_request {s : State} (r : Request) (rest : List Awaiting) (h : s.restarting = none) :
    s.takeWaiting (.request r :: rest) = State.takeWaiting rest (({ s with waiting := rest } : State).answer r) := by
  rw [State.takeWaiting, if_neg (by simp [h])]

/-- A request that arrives and is taken is answered as one that waited is. -/
theorem request_of_takes {s : State} {r : Request} (ht : s.takes = true) (hl : r.body.length ≤ 1024) :
    s.request r.kind r.tag r.body = s.hunts.answer r := by
  unfold State.answer
  cases hk : handlerOf r.kind with
  | none => exact State.request_unknown ht hl hk
  | some h => exact State.request_taken ht hl hk

/-- The kind and the tag of the reply to what stands in the sequence behind a restart (R181, R182). -/
def replyHead : Awaiting → Byte × Byte
  | .request r => (replyKind r.kind, r.tag)
  | .frameError => (0xFF, 0)

/-- A request other than RESTART adds its one reply to the sequence, and leaves what waits as it is. -/
theorem answer_ledger {s : State} {r : Request} (hr : r.kind ≠ 0x34) :
    ∃ x : Reply, (x.kind, x.tag) = replyHead (.request r)
      ∧ ledger (s.answer r) = (s.replies ++ [x], s.waiting, s.restarting) := by
  unfold State.answer
  split
  · rename_i h hk
    obtain ⟨hreplies, hwaiting, hrestarting⟩ :
        (h r.body s).2.replies = s.replies ∧ (h r.body s).2.waiting = s.waiting
          ∧ (h r.body s).2.restarting = s.restarting := by
      simpa [ledger] using ledger_handler hk hr r.body s
    exact ⟨⟨replyKind r.kind, r.tag, (h r.body s).1.code, (h r.body s).1.content⟩, rfl,
      by simp [ledger, State.owe, hreplies, hwaiting, hrestarting]⟩
  · exact ⟨⟨replyKind r.kind, r.tag, _, _⟩, rfl, rfl⟩

/-- In `t` nothing waits, and what waited in `l` has added its replies to those of `s`, in its order. -/
def TakenInOrder (l : List Awaiting) (s t : State) : Prop :=
  ∃ replies : List Reply, ledger t = (s.replies ++ replies, [], none)
    ∧ replies.map (fun x => (x.kind, x.tag)) = l.map replyHead

theorem TakenInOrder.cons {a : Awaiting} {rest : List Awaiting} {s u t : State} {x : Reply}
    (hu : u.replies = s.replies ++ [x]) (hx : (x.kind, x.tag) = replyHead a) (h : TakenInOrder rest u t) :
    TakenInOrder (a :: rest) s t := by
  obtain ⟨replies, taken, heads⟩ := h
  refine ⟨x :: replies, ?_, ?_⟩
  · rw [taken, hu, List.append_assoc]; rfl
  · rw [List.map_cons, List.map_cons, heads, hx]

/-- Where no further RESTART waits, all that waits is taken, and each adds its reply in its place. -/
theorem takeWaiting_takenInOrder {l : List Awaiting} {s : State} (hw : s.waiting = l) (hs : s.restarting = none)
    (hl : ∀ r, .request r ∈ l → r.kind ≠ 0x34) : TakenInOrder l s (s.takeWaiting l) := by
  induction l generalizing s with
  | nil => exact ⟨[], by simp [ledger, State.takeWaiting, hw, hs], rfl⟩
  | cons a rest ih =>
    have later (u : State) (hw : u.waiting = rest) (hs : u.restarting = none) : TakenInOrder rest u (u.takeWaiting rest) :=
      ih hw hs fun r h => hl r (.tail _ h)
    cases a with
    | frameError => exact .cons (x := frameErrorReply) rfl rfl (later _ rfl hs)
    | request r =>
      obtain ⟨x, head, added⟩ := answer_ledger (s := { s with waiting := rest }) (hl r (.head _))
      obtain ⟨hreplies, hwaiting, hrestarting⟩ :
          (State.answer r { s with waiting := rest }).replies = s.replies ++ [x]
            ∧ (State.answer r { s with waiting := rest }).waiting = rest
            ∧ (State.answer r { s with waiting := rest }).restarting = s.restarting := by
        simpa [ledger] using added
      rw [takeWaiting_request r rest hs]
      exact .cons hreplies head (later _ hwaiting (hrestarting.trans hs))

/-- Settles O41: RESTART and its reply, RESTART_ALL, and the taking of the requests that waited. -/
theorem restartWaitsForItsReply : Obligations.RestartWaitsForItsReply := by
  unfold Obligations.RestartWaitsForItsReply
  refine ⟨fun s tag ht => ⟨?_, ?_, ?_, ?_⟩, fun s hs hr hw => ?_, fun s hs hr => ?_, fun s => ⟨rfl, fun _ => rfl, ?_, ?_⟩⟩
  · exact exec_restart_ok ht rfl
  · exact exec_restart_ok ht rfl
  · exact fun b hb => exec_restart_range ht hb
  · intro u r hr hk hc
    exact ⟨congrArg Host.Outcome.next (carryRestart_of_not_due _ (restartDue_of_reply_owed .survey hr hk hc)),
      congrArg Host.Outcome.next (carryRestart_of_not_due _ (restartDue_of_reply_owed .all hr hk hc))⟩
  · rw [exec_restartAll hs hr, hw]
    cases s.frameInput <;> rfl
  · rw [exec_restartAll hs hr]
    cases s.frameInput <;> rfl
  · intro c r rest hc
    refine ⟨takeWaiting_request_of_restarting r rest, takeWaiting_request r rest, fun ht hl => ?_⟩
    rw [Lines.exec_of_requestOf s hc, request_of_takes ht hl]
  · intro hs hl t
    obtain ⟨replies, taken, heads⟩ := takeWaiting_takenInOrder rfl hs hl
    obtain ⟨hreplies, hwaiting, hrestarting⟩ : t.replies = s.replies ++ replies ∧ t.waiting = [] ∧ t.restarting = none := by
      simpa [ledger] using taken
    refine ⟨hwaiting, hrestarting, replies, hreplies, heads.trans (List.map_congr_left fun a _ => ?_)⟩
    cases a <;> rfl

end Sys2Proof.Restart

/-! PROOFS. The cold-start condition, and the laws of the state there (O3, O4). -/
namespace Sys2Proof.ColdStart
open Sys2Proof.Machine

theorem tabGet_replicate {α : Type} {n : Nat} (x : α) (i : Fin n) : tabGet (Vector.replicate n x) i = x :=
  Vector.getElem_replicate i.2

theorem reset_feed (f : Fin 6) : State.reset.feed f = Feed.cold := tabGet_replicate _ f
theorem reset_path (p : Fin 8) : State.reset.path p = Path.cold := tabGet_replicate _ p
theorem reset_sweep (n : Fin 8) : State.reset.sweep n = SweepList.cold := tabGet_replicate _ n
theorem reset_slot (i : Fin 64) : State.reset.slot i = Slot.cold := tabGet_replicate _ i
theorem reset_shelf (h : Fin 4) : State.reset.shelf h = Shelf.cold := tabGet_replicate _ h

/-- Settles O3: the two cold starts, then the condition they bring, block by block. -/
theorem coldStartValues : Obligations.ColdStartValues := by
  unfold Obligations.ColdStartValues
  refine ⟨fun s => ⟨rfl, rfl⟩, rfl, rfl, rfl, rfl, rfl, rfl, rfl, rfl, reset_feed, fun p => ?_, fun n => ?_, fun i => ?_,
    fun h => ?_, rfl, rfl, rfl, rfl, rfl, rfl, rfl, rfl, rfl⟩
  · rw [reset_path]; exact ⟨rfl, rfl, rfl, rfl, rfl⟩
  · rw [reset_sweep]; exact ⟨rfl, rfl⟩
  · rw [reset_slot]; exact ⟨rfl, rfl⟩
  · rw [reset_shelf]; exact ⟨rfl, rfl, rfl, rfl, rfl, rfl⟩

/-- No path holds a tap at cold start. -/
theorem reset_users (f : Fin 6) : State.reset.users f = 0 := by
  simp [State.users, countWhere, reset_path, Path.cold]

/-- Settles O4: the queues and the sparse tables are empty, no path holds a tap, and every slot is VACANT. -/
theorem lawsHoldAtReset : Obligations.LawsHoldAtReset := by
  unfold Obligations.LawsHoldAtReset
  refine ⟨rfl, List.all_eq_true.2 fun f _ => ?_, List.all_eq_true.2 fun i _ => ?_, rfl, rfl⟩
  · rw [reset_users]; rfl
  · rw [reset_slot]; rfl

end Sys2Proof.ColdStart

/-! PROOFS. The requests that are not taken: overrun, overlong, and behind a restart (O12). -/
namespace Sys2Proof.Untaken
open Sys2Proof.Machine

theorem outstanding_eq (s : State) :
    s.outstanding = (s.replies.filter fun x => decide (x.code ≠ .frameError)).length
      + (s.waiting.filter fun x => decide (x ≠ .frameError)).length :=
  congrArg (fun isRequest : Awaiting → Bool => countWhere Reply.toRequest s.replies + countWhere isRequest s.waiting)
    (funext Restart.isRequest_eq)

theorem overruns_iff (body : List Byte) (s : State) : s.overruns body = true ↔ 1024 < body.length ∨ 4 ≤ s.outstanding := by
  simp only [State.overruns, Bool.or_eq_true, decide_eq_true_eq]; rfl

theorem holdsRequests_iff (s : State) : s.holdsRequests = true ↔ s.restarting ≠ none ∨ s.waiting ≠ [] := by
  simp [State.holdsRequests, Option.isSome_iff_ne_none]

/-- A request that overruns, or is too long, is discarded, as any frame is (R181). -/
theorem exec_of_overruns {c : Instr} {r : Request} {s : State} (hc : requestOf c = some r)
    (h : 1024 < r.body.length ∨ 4 ≤ s.outstanding) : exec c s = .next s.hunts.discardFrame := by
  have untaken : s.hunts.overruns r.body = true := (overruns_iff _ _).2 (by rwa [State.hunts_outstanding])
  rw [Lines.exec_of_requestOf s hc, State.request_eq, if_pos untaken]

/-- A request that could be taken waits while a restart is awaited (R176). -/
theorem exec_of_holdsRequests {c : Instr} {r : Request} {s : State} (hc : requestOf c = some r)
    (hl : r.body.length ≤ 1024) (ho : s.outstanding < 4) (hw : s.restarting ≠ none ∨ s.waiting ≠ []) :
    exec c s = .next { s.hunts with waiting := s.hunts.waiting ++ [.request r] } := by
  have fits : ¬ s.hunts.overruns r.body = true := by
    rw [overruns_iff, State.hunts_outstanding]; omega
  have held : s.hunts.holdsRequests = true := by rw [State.hunts_holdsRequests]; exact (holdsRequests_iff s).2 hw
  rw [Lines.exec_of_requestOf s hc, State.request_eq, if_neg fits, if_pos held]

/-- Settles O12: what overruns is discarded, by whether a FRAME_ERROR is owed and whether requests wait. -/
theorem requestNotTaken : Obligations.RequestNotTaken := by
  unfold Obligations.RequestNotTaken
  intro c r s hc u unowed
  refine ⟨fun h => ⟨fun hu hw => ?_, fun hu hw => ?_, fun hu => ?_⟩, exec_of_holdsRequests hc, outstanding_eq s⟩
  · rw [exec_of_overruns hc h, State.discardFrame_unowed ((State.errorOwed_eq_false u).2 hu), State.oweError_nil hw]
    rfl
  · rw [exec_of_overruns hc h, State.discardFrame_unowed ((State.errorOwed_eq_false u).2 hu), State.oweError_waits hw]
  · have owed : u.errorOwed = true := Bool.not_eq_false _ ▸ mt (State.errorOwed_eq_false u).1 hu
    rw [exec_of_overruns hc h, State.discardFrame_owed owed]

end Sys2Proof.Untaken

/-! SUPPORT. What the operations shared by the blocks leave of the clock and of the queue of commands: both stay. -/
namespace Sys2Proof.Completion
open Sys2Proof.Machine

/-- The clock, and the commands that wait. -/
def timeline (s : State) : Stamp × List Instr := (s.clock, s.pending)

theorem timeline_eq {s t : State} (h1 : t.clock = s.clock) (h2 : t.pending = s.pending) : timeline t = timeline s :=
  Prod.ext h1 h2

theorem timeline_of_sweepFrame {a : Bool} {s t : State} (h : SweepFrame a s t) : timeline t = timeline s :=
  timeline_eq h.clock h.pending

theorem timeline_of_lineupFrame {s t : State} (h : LineupFrame s t) : timeline t = timeline s :=
  timeline_eq h.clock h.pending

theorem timeline_foldl {α : Type} {f : State → α → State} (h : ∀ s x, timeline (f s x) = timeline s) (l : List α)
    (s : State) : timeline (l.foldl f s) = timeline s := by
  induction l generalizing s with
  | nil => rfl
  | cons x l ih => rw [List.foldl_cons, ih, h]

@[simp] theorem timeline_ite (c : Prop) [Decidable c] (s t : State) :
    timeline (if c then s else t) = if c then timeline s else timeline t := apply_ite timeline c s t

/-! ## Records -/

@[simp] theorem timeline_setFeed (s : State) (f : Fin 6) (x : Feed) : timeline (s.setFeed f x) = timeline s := rfl
@[simp] theorem timeline_setPath (s : State) (p : Fin 8) (x : Path) : timeline (s.setPath p x) = timeline s := rfl
@[simp] theorem timeline_setSweep (s : State) (n : Fin 8) (x : SweepList) : timeline (s.setSweep n x) = timeline s := rfl
@[simp] theorem timeline_setSlot (s : State) (i : Fin 64) (x : Slot) : timeline (s.setSlot i x) = timeline s := rfl
@[simp] theorem timeline_setShelf (s : State) (h : Fin 4) (x : Shelf) : timeline (s.setShelf h x) = timeline s := rfl
@[simp] theorem timeline_setCarrier (s : State) (c : Nat) (x : Carrier) : timeline (s.setCarrier c x) = timeline s := rfl
@[simp] theorem timeline_setService (s : State) (k : Nat) (v : Service) : timeline (s.setService k v) = timeline s := rfl

@[simp] theorem timeline_setRecheckQueue (s : State) (q : List Recheck) :
    timeline { s with recheckQueue := q } = timeline s := rfl

/-! ## The sweep -/

section Sweep
variable (s : State) (p n : Fin 8) (f : Fin 6)

@[simp] theorem timeline_post (k : NoticeKind) (o : Nat) (d : List Byte) : timeline (s.post k o d) = timeline s :=
  timeline_of_lineupFrame (State.post_lineup k o d s)
@[simp] theorem timeline_runEngine : timeline s.runEngine = timeline s :=
  timeline_of_sweepFrame (a := true) (State.runEngine_frame s)
@[simp] theorem timeline_serve : timeline (s.serve f) = timeline s :=
  timeline_of_sweepFrame (a := true) (State.serve_frame f s)
@[simp] theorem timeline_toRequester (r : Result) : timeline (s.toRequester r) = timeline s :=
  timeline_of_sweepFrame (a := true) (State.toRequester_frame r s)
@[simp] theorem timeline_takeRelease : timeline (s.takeRelease p) = timeline s :=
  timeline_of_sweepFrame (a := true) (State.takeRelease_frame p s)
@[simp] theorem timeline_tryDetach : timeline (s.tryDetach p) = timeline s :=
  timeline_of_sweepFrame (a := true) (State.tryDetach_frame p s)
@[simp] theorem timeline_leaveList : timeline (s.leaveList n) = timeline s :=
  timeline_of_sweepFrame (a := true) (State.leaveList_frame n s)
@[simp] theorem timeline_setMode (m : PathMode) : timeline (s.setMode p m) = timeline s :=
  timeline_of_sweepFrame (a := true) (State.setMode_frame p m s)
@[simp] theorem timeline_enterParked : timeline (s.enterParked p) = timeline s :=
  timeline_of_sweepFrame (a := true) (State.enterParked_frame p s)
@[simp] theorem timeline_cutOff : timeline (s.cutOff p) = timeline s :=
  timeline_of_sweepFrame (a := true) (State.cutOff_frame p s)
@[simp] theorem timeline_startTune : timeline (s.startTune p f) = timeline s :=
  timeline_of_sweepFrame (a := true) (State.startTune_frame p f s)
@[simp] theorem timeline_startHeldTune (t : HeldTune) : timeline (s.startHeldTune p t) = timeline s :=
  timeline_of_sweepFrame (a := true) (State.startHeldTune_frame p t s)
@[simp] theorem timeline_lock : timeline (s.lock p) = timeline s :=
  timeline_of_sweepFrame (a := true) (State.lock_frame p s)
@[simp] theorem timeline_lockFails : timeline (s.lockFails p) = timeline s :=
  timeline_of_sweepFrame (a := true) (State.lockFails_frame p s)
@[simp] theorem timeline_endLeadIn (w : Window) (b : Stamp) : timeline (s.endLeadIn p w b) = timeline s :=
  timeline_of_sweepFrame (a := true) (State.endLeadIn_frame p w b s)
@[simp] theorem timeline_endCounted (w : Window) (x : PathSample) (b : Stamp) :
    timeline (s.endCounted p w x b) = timeline s :=
  timeline_of_sweepFrame (a := true) (State.endCounted_frame p w x b s)
@[simp] theorem timeline_endWindow (o : MeasOutcome) (an : Option Announcement) (b : Stamp) :
    timeline (s.endWindow p o an b) = timeline s :=
  timeline_of_sweepFrame (a := true) (State.endWindow_frame p o an b s)
@[simp] theorem timeline_requestRecheck (c : Nat) (k : MeasClass) (u : Urgency) (r : RecheckReason) :
    timeline (s.requestRecheck c k u r) = timeline s :=
  timeline_of_sweepFrame (State.requestRecheck_frame c k u r s)

@[simp] theorem timeline_enterSurvey (x : SurveyState) (c : SurveyCause) :
    timeline (s.enterSurvey x c) = timeline s := timeline_post { s with survey := x } _ _ _

theorem timeline_mapLists (g : Fin 8 → SweepList → SweepList) : timeline (s.mapLists g) = timeline s :=
  timeline_foldl (fun t n => timeline_setSweep t n _) _ s

end Sweep

/-! ## Reports and what a slot lets go of -/

section Reports
variable (s : State)

@[simp] theorem timeline_handReports (l : List RankReport) : timeline (s.handReports l) = timeline s :=
  timeline_of_lineupFrame (State.handReports_frame l s)
@[simp] theorem timeline_reportServices (l : List Nat) (k : RankCause) (c : Option Nat) :
    timeline (s.reportServices l k c) = timeline s := timeline_of_lineupFrame (State.reportServices_frame l k c s)
@[simp] theorem timeline_reportCarrier (c : Nat) (k : RankCause) (b : Reception) :
    timeline (s.reportCarrier c k b) = timeline s := timeline_of_lineupFrame (State.reportCarrier_frame c k b s)
@[simp] theorem timeline_settleReports (x : State × List RankReport) :
    timeline (State.settleReports x) = timeline x.1 := timeline_handReports x.1 x.2
@[simp] theorem timeline_evaluate (i : Fin 64) (ev : Option RankReport) :
    timeline (s.evaluate i ev).1 = timeline s := timeline_of_lineupFrame (State.evaluate_frame i ev s)
@[simp] theorem timeline_letGo (n : Option CandName) : timeline (s.letGo n).1 = timeline s :=
  timeline_of_lineupFrame (State.letGo_frame n s)
@[simp] theorem timeline_freeCandidate (n : CandName) : timeline (s.freeCandidate n) = timeline s :=
  timeline_of_lineupFrame (State.freeCandidate_frame n s)
@[simp] theorem timeline_dropEmpty (k : Nat) : timeline (s.dropEmpty k) = timeline s :=
  timeline_of_lineupFrame (State.dropEmpty_frame k s)
@[simp] theorem timeline_send (h : Fin 4) : timeline (s.send h) = timeline s :=
  timeline_of_lineupFrame (State.send_frame h s)

@[simp] theorem timeline_enqueue (h : Fin 4) (o : Fin 16) (k : OrderKind) :
    timeline (s.enqueue h o k) = timeline s := timeline_of_lineupFrame (State.enqueue_frame h o k s)

@[simp] theorem timeline_giveOrder (i : Fin 64) (n : CandName) (r : OrderReason) :
    timeline (s.giveOrder i n r) = timeline s := by
  unfold State.giveOrder State.handSet
  split <;> simp

end Reports

/-! ## The Score Unit -/

section Score
variable (s : State) (c : Nat)

@[simp] theorem timeline_replanned : timeline (s.replanned c) = timeline s := by
  unfold State.replanned
  split <;> simp

@[simp] theorem timeline_ageCarrier : timeline (s.ageCarrier c) = timeline s := by
  unfold State.ageCarrier
  split
  · rfl
  · split <;> simp

theorem timeline_retimeCarrier : timeline (s.retimeCarrier c) = timeline s := by
  unfold State.retimeCarrier
  split
  · rfl
  · split <;> simp

@[simp] theorem timeline_watchVersion (v : Nat) : timeline (s.watchVersion c v) = timeline s := by
  unfold State.watchVersion
  split
  · rfl
  · split <;> simp

@[simp] theorem timeline_applyScored (r : Result) : timeline (State.applyScored r s) = timeline s := by
  unfold State.applyScored
  split
  · rfl
  · dsimp only
    split <;> simp

@[simp] theorem timeline_applyMiss (cause : MissCause) (level : Option Nat) :
    timeline (s.applyMiss c cause level) = timeline s := by
  unfold State.applyMiss
  split <;> simp

theorem timeline_applyLevel (r : Result) : timeline (State.applyLevel r s) = timeline s := by
  unfold State.applyLevel
  split <;> rfl

end Score

/-! ## Candidates and services -/

section Candidates
variable (s : State)

@[simp] theorem timeline_reviseCandidate (n : CandName) (g : Candidate → Candidate) :
    timeline (s.reviseCandidate n g) = timeline s := by
  unfold State.reviseCandidate
  split
  · rfl
  · split <;> rfl

@[simp] theorem timeline_releaseCandidates (c : Nat) : timeline (s.releaseCandidates c) = timeline s :=
  timeline_foldl (fun t x => by simp [State.releaseCandidate]) _ s

@[simp] theorem timeline_freeCandidates (c : Nat) : timeline (s.freeCandidates c) = timeline s :=
  timeline_foldl (fun t _ => timeline_freeCandidate t _) _ s

end Candidates

end Sys2Proof.Completion

/-! SUPPORT. What the requests leave of the clock and of the queue of commands (R182): each request of Table 13-2 leaves
both as they are. -/
namespace Sys2Proof.Completion
open Sys2Proof.Machine

/-! ## The plan, the feeds and the parameters -/

section Plan
variable (s : State)

theorem timeline_putPlan (c : Nat) (p : Plan) : timeline (s.putPlan c p) = timeline s := by
  unfold State.putPlan State.retuned State.reEnable
  split <;> simp

theorem timeline_disableCarrier (c : Nat) (x : Carrier) : timeline (s.disableCarrier c x) = timeline s := by
  rw [State.disableCarrier, timeline_runEngine, timeline_reportServices, timeline_foldl (by simp),
    timeline_setRecheckQueue, timeline_setCarrier]

theorem timeline_eraseCarrier (c : Nat) : timeline (s.eraseCarrier c) = timeline s := by
  change timeline ((s.freeCandidates c).reportServices (s.servicesOn c) .erased (some c)) = timeline s
  simp

theorem timeline_setFeedUp (o : FeedSetting) : timeline (s.setFeedUp o) = timeline s := by
  simp [State.setFeedUp]

theorem timeline_writeParams (l : List ParamItem) : timeline (s.writeParams l) = timeline s := by
  have retimed (t : State) : timeline t.retime = timeline t := timeline_foldl timeline_retimeCarrier _ t
  unfold State.writeParams
  dsimp only
  split
  · exact retimed _
  · rfl

end Plan

/-! ## Paths and the survey -/

section Survey
variable (s : State)

theorem timeline_askMode (p : Fin 8) (m : PathMode) : timeline (s.askMode p m) = timeline s := by
  unfold State.askMode State.pendMode
  split
  · rfl
  · split <;> simp

theorem timeline_startSurvey : timeline s.startSurvey = timeline s := by
  simp [State.startSurvey, timeline_mapLists]

theorem timeline_pauseSurvey : timeline s.pauseSurvey = timeline s := by
  simp [State.pauseSurvey, timeline_mapLists]

theorem timeline_resumeSurvey : timeline s.resumeSurvey = timeline s := by
  simp [State.resumeSurvey, timeline_mapLists]

theorem timeline_releaseListPaths : timeline s.releaseListPaths = timeline s :=
  timeline_foldl (by simp) _ s

theorem timeline_stopSurvey : timeline s.stopSurvey = timeline s := by
  simp only [State.stopSurvey, timeline_runEngine, timeline_releaseListPaths, timeline_setRecheckQueue, timeline_mapLists,
    timeline_enterSurvey]

end Survey

/-! ## Services -/

section Services
variable (s : State)

theorem timeline_trimMerged (key : Nat) : timeline (s.trimMerged key) = timeline s := by
  unfold State.trimMerged
  dsimp only
  split
  · rfl
  · rw [timeline_post, timeline_foldl fun t y => timeline_freeCandidate t _]

theorem timeline_merge (found key : Nat) (f : Service) : timeline (s.merge found key f) = timeline s := by
  rw [State.merge, timeline_reportServices]
  change timeline (State.trimMerged _ _) = _
  simp [timeline_trimMerged]

theorem timeline_bindPair (p : Pair) (key : Nat) : timeline (s.bindPair p key) = timeline s := by
  unfold State.bindPair
  dsimp only
  split
  · split
    · exact timeline_merge _ _ _ _
    · rfl
  · split <;> rfl

theorem timeline_dropService (key : Nat) : timeline (s.dropService key) = timeline s :=
  timeline_foldl timeline_freeCandidate _ { s with bindings := _ }

end Services

/-! ## Slots -/

section Slots
variable (s : State) (i : Fin 64)

@[simp] theorem timeline_unbound (b : Option SlotBinding) : timeline (s.unbound b) = timeline s := by
  unfold State.unbound
  split <;> simp

theorem timeline_setSlotUp (o : SlotSetting) : timeline (s.setSlotUp o) = timeline s := by
  simp [State.setSlotUp]

theorem timeline_clearSlot : timeline (s.clearSlot i) = timeline s := by
  unfold State.clearSlot State.handClear
  dsimp only
  split <;> simp

theorem timeline_pinSlot (n : CandName) : timeline (s.pinSlot i n) = timeline s := by
  simp [State.pinSlot]

theorem timeline_unpinSlot : timeline (s.unpinSlot i) = timeline s := by
  unfold State.unpinSlot
  dsimp only
  split <;> simp

theorem timeline_resumeSlot : timeline (s.resumeSlot i) = timeline s := by
  simp [State.resumeSlot]

end Slots

/-! ## The handlers -/

theorem timeline_carryOut {α : Type} {act : α → State → Answer × State} {s : State} (c : Checked α)
    (h : ∀ x, timeline (act x s).2 = timeline s) : timeline (carryOut c act s).2 = timeline s := by
  cases c with
  | error a => rfl
  | ok x => exact h x

theorem timeline_carryOutOk {α : Type} {act : α → State → State} {s : State} (c : Checked α)
    (h : ∀ x, timeline (act x s) = timeline s) : timeline (carryOutOk c act s).2 = timeline s := timeline_carryOut c h

section Handlers
variable (body : List Byte) (s : State)

theorem timeline_handlePlanDisable : timeline (handlePlanDisable body s).2 = timeline s := by
  refine timeline_carryOutOk _ fun c => ?_
  split <;> simp [timeline_disableCarrier]

theorem timeline_handleParamSet : timeline (handleParamSet body s).2 = timeline s := by
  unfold handleParamSet State.fieldByte
  split
  · rfl
  · rfl
  · split
    · dsimp only
      split <;> rfl
    · split
      · rfl
      · exact timeline_writeParams s _

theorem timeline_handleParamGet : timeline (handleParamGet body s).2 = timeline s := by
  unfold handleParamGet
  split <;> rfl

theorem timeline_handleListWrite : timeline (handleListWrite body s).2 = timeline s := by
  unfold handleListWrite State.runRange
  split
  · dsimp only
    split
    · rfl
    · split
      · rfl
      · split
        · rfl
        · split
          · rfl
          · split
            · rfl
            · split <;> rfl
  · rfl

theorem timeline_handleReadStatus : timeline (handleReadStatus body s).2 = timeline s := by
  unfold handleReadStatus
  split <;> rfl

theorem timeline_fetchNotices (n : Nat) : timeline (s.fetchNotices n).2 = timeline s := by
  unfold State.fetchNotices
  dsimp only
  split <;> rfl

/-- The handlers, kind by kind, in the order of Table 13-2. -/
theorem timeline_handler {kind : Byte} {h : List Byte → State → Answer × State} (hk : handlerOf kind = some h) :
    timeline (h body s).2 = timeline s := by
  unfold handlerOf at hk
  split at hk <;> cases hk
  · exact timeline_carryOutOk _ fun o => timeline_putPlan s o.1 o.2
  · exact timeline_handlePlanDisable body s
  · exact timeline_carryOutOk _ (timeline_eraseCarrier s)
  · exact timeline_carryOutOk _ (timeline_setFeedUp s)
  · exact timeline_carryOutOk _ fun o => timeline_setFeed s o.1 _
  · exact timeline_handleParamSet body s
  · exact timeline_handleParamGet body s
  · exact timeline_handleListWrite body s
  · exact timeline_carryOutOk _ fun o => timeline_setSweep s o.1 _
  · exact timeline_carryOutOk _ fun o => (timeline_runEngine _).trans (timeline_setSweep s o.1 _)
  · exact timeline_carryOutOk _ fun o => timeline_askMode s o.1 o.2
  · exact timeline_carryOutOk _ fun o => timeline_of_sweepFrame (a := true) (State.tune_frame o.1 o.2 _ _ s)
  · exact timeline_carryOutOk _ fun o => timeline_of_sweepFrame (a := true) (State.takeMeasure_frame o.1 o.2 s)
  · exact timeline_carryOutOk _ (timeline_takeRelease s)
  · exact timeline_carryOutOk _ fun o => timeline_requestRecheck s o.1 o.2.1 o.2.2 _
  · exact timeline_carryOutOk _ fun _ => timeline_startSurvey s
  · exact timeline_carryOutOk _ fun _ => timeline_pauseSurvey s
  · exact timeline_carryOutOk _ fun _ => timeline_resumeSurvey s
  · exact timeline_carryOutOk _ fun _ => timeline_stopSurvey s
  · exact timeline_carryOutOk _ fun _ => rfl
  · exact timeline_carryOutOk _ fun o => timeline_bindPair s o.1 o.2
  · exact timeline_carryOutOk _ fun _ => rfl
  · exact timeline_carryOutOk _ (timeline_dropService s)
  · exact timeline_carryOutOk _ (timeline_setSlotUp s)
  · exact timeline_carryOutOk _ (timeline_clearSlot s)
  · exact timeline_carryOutOk _ fun o => timeline_pinSlot s o.1 o.2
  · exact timeline_carryOutOk _ (timeline_unpinSlot s)
  · exact timeline_carryOutOk _ (timeline_resumeSlot s)
  iterate 7 exact rfl
  · exact timeline_handleReadStatus body s
  · exact timeline_carryOut _ (timeline_fetchNotices s)
  · exact timeline_carryOut _ fun _ => rfl

end Handlers

/-! ## A request from its frame to its reply -/

section Link
variable (s : State)

theorem timeline_hunts : timeline s.hunts = timeline s := rfl

theorem timeline_discardFrame : timeline s.discardFrame = timeline s := by
  rw [Lines.discardFrame_eq, State.discards]
  split
  · rfl
  · split <;> rfl

theorem timeline_answer (r : Request) : timeline (s.answer r) = timeline s := by
  unfold State.answer
  split
  · exact timeline_handler _ _ ‹_›
  · rfl

/-- A request that completes is discarded, waits, or is answered. -/
theorem timeline_request (kind tag : Byte) (body : List Byte) : timeline (s.request kind tag body) = timeline s := by
  rw [State.request_eq]
  split
  · rw [timeline_discardFrame, timeline_hunts]
  · split
    · rfl
    · rw [timeline_answer, timeline_hunts]

theorem timeline_linkGap : timeline s.linkGap = timeline s := by
  unfold State.linkGap
  split
  · rw [timeline_discardFrame]; rfl
  · rfl

theorem timeline_linkEvent (e : FrameEvent) : timeline (s.linkEvent e) = timeline s := by
  cases e with
  | none => rfl
  | discard => exact timeline_discardFrame s
  | frame kind tag body => exact timeline_request s kind tag body

theorem timeline_linkChar (c : LineChar) : timeline (s.linkChar c) = timeline s := by
  rw [Lines.linkChar_eq, timeline_linkEvent]; rfl

theorem timeline_linkChars (l : List LineChar) : timeline (s.linkChars l) = timeline s :=
  (timeline_foldl timeline_linkChar l s.linkGap).trans (timeline_linkGap s)

/-- The requests that waited for a restart are taken as those that arrive. -/
theorem timeline_takeWaiting (l : List Awaiting) : timeline (s.takeWaiting l) = timeline s := by
  induction l generalizing s with
  | nil => rfl
  | cons a rest ih =>
    cases a with
    | frameError => exact ih _
    | request r =>
      unfold State.takeWaiting
      split
      · rfl
      · exact (ih _).trans (timeline_answer _ r)

end Link

end Sys2Proof.Completion

/-! SUPPORT. What the Shelf Lines, the timers and the results taken leave of the clock and of the queue of commands. -/
namespace Sys2Proof.Completion
open Sys2Proof.Machine

/-! ## Orders and their outcomes -/

section Shelves
variable (s : State) (h : Fin 4) (i : Fin 64)

@[simp] theorem timeline_shelfHunts : timeline (s.shelfHunts h) = timeline s := timeline_setShelf s h _
@[simp] theorem timeline_alive : timeline (s.alive h) = timeline s := timeline_setShelf s h _
@[simp] theorem timeline_land : timeline (s.land h) = timeline s := timeline_setShelf s h _

@[simp] theorem timeline_replaced (old : Option CandName) (n : CandName) :
    timeline (s.replaced old n).1 = timeline s := by
  unfold State.replaced
  split <;> simp

@[simp] theorem timeline_routeDone : timeline (s.routeDone i) = timeline s := by
  unfold State.routeDone
  dsimp only
  split <;> simp

@[simp] theorem timeline_routeFails (f : RouteFailure) : timeline (s.routeFails i f) = timeline s := by
  unfold State.routeFails
  dsimp only
  split <;> simp

@[simp] theorem timeline_lateDone (tag : Byte) : timeline (s.lateDone i tag) = timeline s := by
  unfold State.lateDone
  dsimp only
  split <;> simp

theorem timeline_orderFails (o : Order) (f : RouteFailure) : timeline (s.orderFails h o f) = timeline s := by
  unfold State.orderFails
  cases o.kind <;> simp

/-! ## The replies of the shelves -/

theorem timeline_shelfAccept (tag : Byte) : timeline (s.shelfAccept h tag) = timeline s := by
  unfold State.shelfAccept
  dsimp only
  split <;> simp

theorem timeline_shelfDone (tag : Byte) (o : Fin 16) : timeline (s.shelfDone h tag o) = timeline s := by
  unfold State.shelfDone
  dsimp only
  split
  · split <;> simp
  · split <;> simp

theorem timeline_shelfReject (tag : Byte) (o : Fin 16) (reason : Nat) :
    timeline (s.shelfReject h tag o reason) = timeline s := by
  unfold State.shelfReject
  dsimp only
  split <;> simp [timeline_orderFails]

theorem timeline_shelfLoss (o : Fin 16) : timeline (s.shelfLoss h o) = timeline s := by
  unfold State.shelfLoss
  dsimp only
  split
  · split <;> simp
  · simp

theorem timeline_resync : timeline (s.resync h) = timeline s :=
  timeline_foldl (fun t i => by unfold State.resyncSlot; dsimp only; split <;> simp) _ s

theorem timeline_shelfReady : timeline (s.shelfReady h) = timeline s := by
  simp [State.shelfReady, timeline_resync]

theorem timeline_shelfFrame (kind tag : Byte) (body : List Byte) : timeline (s.shelfFrame h kind tag body) = timeline s := by
  unfold State.shelfFrame
  split
  · rename_i r _
    cases r with
    | accept tag => exact timeline_shelfAccept s h tag
    | done tag o => exact timeline_shelfDone s h tag o
    | reject tag o reason => exact timeline_shelfReject s h tag o reason
    | loss o => exact timeline_shelfLoss s h o
    | ready => exact timeline_shelfReady s h
  · rfl

theorem timeline_shelfReply (kind tag : Byte) (body : List Byte) : timeline (s.shelfReply h kind tag body) = timeline s := by
  rw [State.shelfReply, timeline_shelfFrame, timeline_shelfHunts]

theorem timeline_shelfChar (c : LineChar) : timeline (s.shelfChar h c) = timeline s := by
  rw [Lines.shelfChar_eq]
  cases ((s.shelf h).input.char s.clock c).2 with
  | none => rfl
  | discard => rfl
  | frame kind tag body => exact timeline_shelfFrame _ h kind tag body

theorem timeline_shelfChars (l : List LineChar) : timeline (s.shelfChars h l) = timeline s := by
  rw [State.shelfChars, timeline_foldl fun t c => timeline_shelfChar t h c]
  simp [State.shelfGap]

theorem timeline_shelfTimerEnd (stage : Stage) : timeline (s.shelfTimerEnd h stage) = timeline s := by
  unfold State.shelfTimerEnd State.orderTimesOut
  split <;> simp [timeline_orderFails]

end Shelves

/-! ## Feeds -/

section Feeds
variable (s : State) (f : Fin 6)

theorem timeline_scan (h : (s.feed f).state ≠ .off) : timeline (s.scan f) = timeline s :=
  timeline_of_sweepFrame (a := true) (State.scan_frame f s h)

theorem timeline_settingSettles : timeline (s.settingSettles f) = timeline s := by
  unfold State.settingSettles
  dsimp only
  split
  · rw [timeline_scan, timeline_setFeed]
    simp
  · rfl

theorem timeline_retryBegins : timeline (s.retryBegins f) = timeline s := by
  simp [State.retryBegins]

theorem timeline_retrySettles : timeline (s.retrySettles f) = timeline s := by
  simp [State.retrySettles]

theorem timeline_faultsCleared : timeline (s.faultsCleared f) = timeline s := by
  simp [State.faultsCleared]

theorem timeline_overcurrent : timeline (s.overcurrent f) = timeline s := by
  simp [State.overcurrent, State.feedFault, State.feedFall, timeline_foldl]

end Feeds

/-! ## Paths and lists -/

section Paths
variable (s : State) (p n : Fin 8)

theorem timeline_tuneStarts : timeline (s.tuneStarts p) = timeline s := by
  unfold State.tuneStarts
  dsimp only
  split <;> simp

theorem timeline_settles : timeline (s.settles p) = timeline s := by
  simp [State.settles]

theorem timeline_acquires : timeline (s.acquires p) = timeline s := by
  simp [State.acquires]

theorem timeline_lockTimesOut : timeline (s.lockTimesOut p) = timeline s := by
  simp [State.lockTimesOut]

theorem timeline_blockEnds (b : BlockSample) : timeline (s.blockEnds p b) = timeline s := by
  unfold State.blockEnds
  dsimp only
  split <;> simp

theorem timeline_sectionArrives (x : AnnouncementSection) : timeline (s.sectionArrives p x) = timeline s := by
  unfold State.sectionArrives State.completeRead
  dsimp only
  split
  · split
    · rfl
    · split
      · split <;> simp
      · simp
  · rfl

theorem timeline_contentTimesOut : timeline (s.contentTimesOut p) = timeline s := by
  unfold State.contentTimesOut
  dsimp only
  split <;> simp

theorem timeline_detachPasses : timeline (s.detachPasses p) = timeline s := by
  simp [State.detachPasses]

theorem timeline_recovers : timeline (s.recovers p) = timeline s := by
  unfold State.recovers
  dsimp only
  split
  · split <;> simp
  · rfl

theorem timeline_tickEnds : timeline s.tickEnds = timeline s := by
  unfold State.tickEnds
  split <;> rfl

@[simp] theorem timeline_finishList (l : SweepList) (d : Descriptor) (r : DoneReason) :
    timeline (s.finishList n l d r) = timeline s := by
  unfold State.finishList
  dsimp only
  split
  · rw [timeline_post]; rfl
  · rw [timeline_takeRelease, timeline_post]; rfl

theorem timeline_restEnds : timeline (s.restEnds n) = timeline s := by
  have advances : timeline (s.advance n) = timeline s := by
    unfold State.advance
    dsimp only
    split <;> simp
  simp [State.restEnds, advances]

end Paths

/-! ## Results taken -/

section Results
variable (s : State) (c : Nat)

theorem timeline_taken (p : Fin 8) (n : Nat) : timeline (s.taken p n) = timeline s := by
  simp [State.taken]

theorem timeline_scoreTakes (p : Fin 8) (kind : Result → Bool) {act : Result → State → State}
    (h : ∀ r t, timeline (act r t) = timeline t) : timeline (s.scoreTakes p kind act) = timeline s := by
  unfold State.scoreTakes
  split
  · simp [timeline_taken, h]
  · rfl

@[simp] theorem timeline_makeCandidate (key : Nat) (e : Announced) : timeline (s.makeCandidate key c e) = timeline s := by
  unfold State.makeCandidate
  split <;> rfl

@[simp] theorem timeline_fileUnder (key : Nat) (e : Announced) (v : Service) :
    timeline (s.fileUnder key c e v).1 = timeline s := by
  unfold State.fileUnder State.tableFull
  split
  · split
    · split <;> simp
    · rfl
  · split <;> simp

@[simp] theorem timeline_fileNew (p : Pair) (e : Announced) : timeline (s.fileNew p c e).1 = timeline s := by
  unfold State.fileNew State.tableFull
  split
  · simp
  · split
    · simp
    · split <;> simp

theorem timeline_fileEntry (network : Nat) (e : Announced) (touched : List Nat) :
    timeline (s.fileEntry network c e touched).1 = timeline s := by
  unfold State.fileEntry
  dsimp only
  split
  · split
    · rfl
    · split <;> rfl
  · split
    · split <;> simp
    · have kept := timeline_fileNew s c ⟨network, e.serviceId⟩ e
      split <;> rename_i filed <;> simpa only [filed] using kept

theorem timeline_fileEntries (network : Nat) (l : List Announced) (touched : List Nat) :
    timeline (State.fileEntries network c l s touched).1 = timeline s := by
  induction l generalizing s touched with
  | nil => rfl
  | cons e l ih => exact (ih _ _).trans (timeline_fileEntry s c network e touched)

theorem timeline_compareIdentity (stored : Option Multiplex) (new : Multiplex) :
    timeline (s.compareIdentity c stored new).1 = timeline s := by
  unfold State.compareIdentity
  split
  · rfl
  · split <;> simp

theorem timeline_applyAnnouncement (a : Announcement) : timeline (s.applyAnnouncement c a) = timeline s := by
  unfold State.applyAnnouncement
  split
  · rfl
  · dsimp only
    rw [timeline_reportServices, timeline_foldl fun t y => timeline_reviseCandidate t _ _, timeline_fileEntries,
      timeline_setCarrier, timeline_compareIdentity]

theorem timeline_registryTakes (p : Fin 8) : timeline (s.registryTakes p) = timeline s := by
  unfold State.registryTakes
  split
  · dsimp only
    split <;> simp [timeline_taken, timeline_applyAnnouncement]
  · rfl

end Results

/-! ## Carriers and slots -/

section Slots
variable (s : State) (i : Fin 64)

theorem timeline_staleEnds (c : Nat) : timeline (s.staleEnds c) = timeline s := by
  unfold State.staleEnds
  split <;> simp

theorem timeline_holdDownPasses : timeline (s.holdDownPasses i) = timeline s := by
  simp [State.holdDownPasses, State.holdDownEnds]

theorem timeline_barPasses : timeline (s.barPasses i) = timeline s := by
  simp [State.barPasses, State.barEnds]

end Slots

/-! ## RESTART with scope SURVEY -/

section RestartSurvey
variable (s : State)

@[simp] theorem timeline_abortProbe (p : Fin 8) (c : Option Nat) (m : Option Meas) :
    timeline (s.abortProbe p c m) = timeline s := by
  unfold State.abortProbe
  split
  · split <;> simp
  · rfl

@[simp] theorem timeline_abortProbeWindow (p : Fin 8) : timeline (s.abortProbeWindow p) = timeline s := by
  unfold State.abortProbeWindow
  split
  · split <;> simp
  · rfl

theorem timeline_restartPath (p : Fin 8) : timeline (s.restartPath p) = timeline s := by
  simp [State.restartPath]

theorem timeline_reorderSlot (i : Fin 64) : timeline (s.reorderSlot i) = timeline s := by
  unfold State.reorderSlot
  dsimp only
  split <;> simp

theorem timeline_restartScores : timeline s.restartScores = timeline s :=
  timeline_foldl (fun t _ => timeline_reportCarrier t _ _ _) _ { s with carriers := _ }

theorem timeline_restartSurvey : timeline s.restartSurvey = timeline s := by
  unfold State.restartSurvey
  extract_lets stopped cleared parked idle dropped reordered
  calc timeline reordered.restartScores
    _ = timeline reordered := timeline_restartScores reordered
    _ = timeline dropped := timeline_foldl timeline_reorderSlot allSlots dropped
    _ = timeline parked := by simp only [timeline, dropped, idle]
    _ = timeline cleared := timeline_foldl timeline_restartPath allPaths cleared
    _ = timeline stopped := timeline_eq rfl rfl
    _ = timeline s := by simp [stopped]

/-- A restart that is due is carried out, and the requests that waited are taken. -/
theorem timeline_carryRestart (scope : RestartScope) {act : State → State} (h : timeline (act s) = timeline s) :
    timeline (s.carryRestart scope act) = timeline s := by
  unfold State.carryRestart
  split
  · exact (timeline_takeWaiting _ _).trans h
  · rfl

end RestartSurvey

end Sys2Proof.Completion

/-! PROOFS. Every command has a next state, and leaves the queue of commands and the clock (O2). -/
namespace Sys2Proof.Completion
open Sys2Proof.Machine

/-- RESTART_ALL leaves the queue of commands, and not the clock (R178). -/
theorem carryRestart_all_pending (s : State) : (s.carryRestart .all State.restartAll).pending = s.pending := by
  unfold State.carryRestart
  split
  · exact congrArg Prod.snd (timeline_takeWaiting { s.restartAll with restarting := none } _)
  · rfl

/-- A command that is not a request and brings no cold start: the commands one by one, in the order of the opcode table. -/
theorem exec_timeline_of_event {c : Instr} (s : State) (hc : requestOf c = none) (h1 : c ≠ .reset) (h2 : c ≠ .powerOn)
    (h3 : c ≠ .restartAll) : ∃ t, exec c s = .next t ∧ timeline t = timeline s := by
  cases c <;> cases hc
  case restartSurvey => exact ⟨_, rfl, timeline_carryRestart s _ (timeline_restartSurvey s)⟩
  case restartAll => exact absurd rfl h3
  case frameError chars => exact ⟨_, rfl, timeline_linkChars s chars⟩
  case frameGapTimeout => exact ⟨_, rfl, timeline_linkGap s⟩
  case replySent => exact ⟨_, rfl, rfl⟩
  case reset => exact absurd rfl h1
  case powerOn => exact absurd rfl h2
  case accept h tag => exact ⟨_, rfl, timeline_shelfReply s h _ _ _⟩
  case done h tag o => exact ⟨_, rfl, timeline_shelfReply s h _ _ _⟩
  case reject h tag o reason => exact ⟨_, rfl, timeline_shelfReply s h _ _ _⟩
  case loss h o => exact ⟨_, rfl, timeline_shelfReply s h _ _ _⟩
  case ready h => exact ⟨_, rfl, timeline_shelfReply s h _ _ _⟩
  case shelfFrameDiscard h chars => exact ⟨_, rfl, timeline_shelfChars s h chars⟩
  case orderSent h => exact ⟨_, rfl, timeline_setShelf s h _⟩
  case acceptTimerEnd h => exact ⟨_, rfl, timeline_shelfTimerEnd s h _⟩
  case doneTimerEnd h => exact ⟨_, rfl, timeline_shelfTimerEnd s h _⟩
  case overcurrentEvent f => exact ⟨_, rfl, timeline_overcurrent s f⟩
  case settingSettleEnd f => exact ⟨_, rfl, timeline_settingSettles s f⟩
  case retryDelayEnd f => exact ⟨_, rfl, timeline_retryBegins s f⟩
  case retrySettleEnd f => exact ⟨_, rfl, timeline_retrySettles s f⟩
  case faultCountClear f => exact ⟨_, rfl, timeline_faultsCleared s f⟩
  case tuneStart p => exact ⟨_, rfl, timeline_tuneStarts s p⟩
  case settleEnd p => exact ⟨_, rfl, timeline_settles s p⟩
  case acquisition p => exact ⟨_, rfl, timeline_acquires s p⟩
  case lockTimeout p => exact ⟨_, rfl, timeline_lockTimesOut s p⟩
  case blockEnd p b => exact ⟨_, rfl, timeline_blockEnds s p b⟩
  case announcementSection p x => exact ⟨_, rfl, timeline_sectionArrives s p x⟩
  case contentTimeout p => exact ⟨_, rfl, timeline_contentTimesOut s p⟩
  case earliestDetach p => exact ⟨_, rfl, timeline_detachPasses s p⟩
  case recoveryEnd p => exact ⟨_, rfl, timeline_recovers s p⟩
  case scoredResult p => exact ⟨_, rfl, timeline_scoreTakes s p _ fun r t => timeline_applyScored t r⟩
  case noLockMiss p => exact ⟨_, rfl, timeline_scoreTakes s p _ fun r t => timeline_applyMiss t _ _ _⟩
  case levelResult p => exact ⟨_, rfl, timeline_scoreTakes s p _ fun r t => timeline_applyLevel t r⟩
  case contentResult p => exact ⟨_, rfl, timeline_registryTakes s p⟩
  case staleTimerEnd c => exact ⟨_, rfl, timeline_staleEnds s _⟩
  case tickBoundary => exact ⟨_, rfl, timeline_tickEnds s⟩
  case restEnd n => exact ⟨_, rfl, timeline_restEnds s n⟩
  case holdDownEnd i => exact ⟨_, rfl, timeline_holdDownPasses s i⟩
  case barEnd i => exact ⟨_, rfl, timeline_barPasses s i⟩

/-- A command other than a cold start has a next state with the same clock and the same queue of commands. -/
theorem exec_timeline {c : Instr} (s : State) (h1 : c ≠ .reset) (h2 : c ≠ .powerOn) (h3 : c ≠ .restartAll) :
    ∃ t, exec c s = .next t ∧ timeline t = timeline s := by
  cases hc : requestOf c with
  | some r => exact ⟨_, Lines.exec_of_requestOf s hc, timeline_request s _ _ _⟩
  | none => exact exec_timeline_of_event s hc h1 h2 h3

/-- Settles O2: the three commands that can bring a cold start, then every other one. -/
theorem everyCommandCompletes : Obligations.EveryCommandCompletes := by
  unfold Obligations.EveryCommandCompletes
  intro c s
  by_cases h1 : c = .reset
  · subst h1; exact ⟨_, rfl, rfl, fun h => absurd rfl h⟩
  by_cases h2 : c = .powerOn
  · subst h2; exact ⟨_, rfl, rfl, fun _ h => absurd rfl h⟩
  by_cases h3 : c = .restartAll
  · subst h3; exact ⟨_, rfl, carryRestart_all_pending s, fun _ _ h => absurd rfl h⟩
  obtain ⟨t, next, kept⟩ := exec_timeline s h1 h2 h3
  exact ⟨t, next, congrArg Prod.snd kept, fun _ _ _ => congrArg Prod.fst kept⟩

end Sys2Proof.Completion

/-! SUPPORT. Placing an event in the notice queue, one equation for each case of R188, and what the queue's law asks of
the queue alone. -/
namespace Sys2Proof.NoticeQueue
open Sys2Proof.Machine

/-! ## Placing an event, case by case -/

theorem not_urgent_eq (n : Notice) : (!n.urgent) = decide (n.kind.urgency = .routine) := by
  unfold Notice.urgent
  cases n.kind.urgency <;> rfl

theorem any_about_iff {k : NoticeKind} {o : Nat} {q : List Notice} :
    q.any (Notice.about k o) = true ↔ ∃ m ∈ q, m.kind = k ∧ m.object = o := by
  simp [Notice.about]

theorem any_about_eq_false {k : NoticeKind} {o : Nat} {q : List Notice} (h : ∀ m ∈ q, ¬ (m.kind = k ∧ m.object = o)) :
    q.any (Notice.about k o) = false := by
  simpa [Notice.about] using h

section Placing
variable {s : State} {k : NoticeKind} {o : Nat} (d : List Byte)

/-- The notice that an event makes where it takes a place. -/
def fresh (s : State) (k : NoticeKind) (o : Nat) (d : List Byte) : Notice := ⟨k, o, 1, s.clock, d⟩

theorem placeNotice_joins (h : ∃ m ∈ s.notices, m.kind = k ∧ m.object = o) :
    s.placeNotice k o d
      = { s with notices := s.notices.map fun m => if m.about k o then m.joined s.clock d else m } := by
  rw [State.placeNotice, if_pos (any_about_iff.2 h)]

theorem placeNotice_routine (h : ∀ m ∈ s.notices, ¬ (m.kind = k ∧ m.object = o)) (hk : k.urgency = .routine)
    (hr : s.routineCount < 28) (hl : s.notices.length < 32) :
    s.placeNotice k o d = { s with notices := s.notices ++ [fresh s k o d] } := by
  simp [State.placeNotice, any_about_eq_false h, hk, hr, hl, Config.routinePlaces, Config.noticePlaces, fresh]

theorem placeNotice_routine_refused (h : ∀ m ∈ s.notices, ¬ (m.kind = k ∧ m.object = o)) (hk : k.urgency = .routine)
    (hf : 28 ≤ s.routineCount ∨ 32 ≤ s.notices.length) : s.placeNotice k o d = s.overflowed := by
  have full : (decide (s.routineCount < Config.routinePlaces) && decide (s.notices.length < Config.noticePlaces)) = false :=
    Bool.and_eq_false_iff.2 (hf.imp (decide_eq_false <| Nat.not_lt.2 ·) (decide_eq_false <| Nat.not_lt.2 ·))
  simp only [State.placeNotice, any_about_eq_false h, hk, full, Bool.false_eq_true, if_false]

theorem placeNotice_urgent (h : ∀ m ∈ s.notices, ¬ (m.kind = k ∧ m.object = o)) (hk : k.urgency = .urgent)
    (hl : s.notices.length < 32) :
    s.placeNotice k o d = { s with notices := placeUrgent (fresh s k o d) s.notices } := by
  simp [State.placeNotice, any_about_eq_false h, hk, hl, Config.noticePlaces, fresh]

theorem placeNotice_urgent_displaces (h : ∀ m ∈ s.notices, ¬ (m.kind = k ∧ m.object = o)) (hk : k.urgency = .urgent)
    (hl : 32 ≤ s.notices.length) (hr : ∃ m ∈ s.notices, m.kind.urgency = .routine) :
    s.placeNotice k o d
      = ({ s with notices := placeUrgent (fresh s k o d) s.notices.dropLast } : State).overflowed := by
  have routine : s.notices.any (fun m => !m.urgent) = true := by simpa [not_urgent_eq] using hr
  simp [State.placeNotice, any_about_eq_false h, hk, Nat.not_lt.2 hl, routine, Config.noticePlaces, fresh]

theorem placeNotice_urgent_refused (h : ∀ m ∈ s.notices, ¬ (m.kind = k ∧ m.object = o)) (hk : k.urgency = .urgent)
    (hl : 32 ≤ s.notices.length) (hu : ∀ m ∈ s.notices, m.kind.urgency = .urgent) :
    s.placeNotice k o d = s.overflowed := by
  have routine : s.notices.any (fun m => !m.urgent) = false := by
    simpa [not_urgent_eq] using fun m hm => by simp [hu m hm]
  simp [State.placeNotice, any_about_eq_false h, hk, Nat.not_lt.2 hl, routine, Config.noticePlaces]

end Placing

/-! ## The law of the queue alone -/

/-- The law of the notice queue (R188) as a property of the queue: order and apartness hold of every two notices. -/
structure QueueLaw (q : List Notice) : Prop where
  places : q.length ≤ 32
  routines : (q.filter fun n => !n.urgent).length ≤ 28
  apart : q.Pairwise fun m n => ¬ (m.kind = n.kind ∧ m.object = n.object)
  urgentFirst : q.Pairwise fun m n => n.urgent = true → m.urgent = true

theorem noticesApart_iff (q : List Notice) :
    noticesApart q = true ↔ q.Pairwise fun m n => ¬ (m.kind = n.kind ∧ m.object = n.object) := by
  induction q with
  | nil => simp [noticesApart]
  | cons n q ih =>
    have turned (m : Notice) : m.kind = n.kind ∧ m.object = n.object ↔ n.kind = m.kind ∧ n.object = m.object :=
      and_congr eq_comm eq_comm
    simp only [noticesApart, Notice.about, turned, Bool.and_eq_true, ih, List.pairwise_cons, Bool.not_eq_true',
      List.any_eq_false, decide_eq_true_eq]

theorem urgentFirst_iff (q : List Notice) :
    ((q.dropWhile Notice.urgent).all fun n => !n.urgent) = true
      ↔ q.Pairwise fun m n => n.urgent = true → m.urgent = true := by
  induction q with
  | nil => simp
  | cons n q ih =>
    cases hn : n.urgent with
    | true => simp [hn, ih]
    | false =>
      have front : (∀ m ∈ q, m.urgent = false) → q.Pairwise fun m n => n.urgent = true → m.urgent = true := fun h =>
        List.Pairwise.imp_of_mem (fun _ hb _ e => absurd e (by simp [h _ hb])) (List.pairwise_of_forall fun _ _ => trivial)
      simpa [hn] using front

theorem noticesOk_iff (s : State) : s.noticesOk = true ↔ QueueLaw s.notices := by
  simp only [State.noticesOk, Bool.and_eq_true, decide_eq_true_eq, noticesApart_iff, urgentFirst_iff]
  exact ⟨fun ⟨⟨⟨h1, h2⟩, h3⟩, h4⟩ => ⟨h1, h2, h3, h4⟩, fun ⟨h1, h2, h3, h4⟩ => ⟨⟨⟨h1, h2⟩, h3⟩, h4⟩⟩

/-- Fewer notices in the same order keep the law. -/
theorem QueueLaw.sublist {p q : List Notice} (h : QueueLaw q) (hp : p.Sublist q) : QueueLaw p where
  places := Nat.le_trans hp.length_le h.places
  routines := Nat.le_trans (hp.filter _).length_le h.routines
  apart := h.apart.sublist hp
  urgentFirst := h.urgentFirst.sublist hp

/-- A notice changed in count, time and detail alone keeps the law. -/
theorem QueueLaw.map {q : List Notice} (h : QueueLaw q) {f : Notice → Notice}
    (hf : ∀ n, (f n).kind = n.kind ∧ (f n).object = n.object) : QueueLaw (q.map f) where
  places := by simpa using h.places
  routines := by simpa [List.filter_map, Function.comp_def, Notice.urgent, hf] using h.routines
  apart := by simpa [List.pairwise_map, hf] using h.apart
  urgentFirst := by simpa [List.pairwise_map, Notice.urgent, hf] using h.urgentFirst

/-- A notice that is new by kind and object keeps the law where there is a place for it, between the urgent ones and the
routine ones. -/
theorem QueueLaw.insert {u r : List Notice} {n : Notice} (h : QueueLaw (u ++ r)) (hl : (u ++ r).length < 32)
    (hr : n.urgent = true ∨ ((u ++ r).filter fun n => !n.urgent).length < 28)
    (hn : ∀ m ∈ u ++ r, ¬ (m.kind = n.kind ∧ m.object = n.object)) (hu : n.urgent = true → ∀ m ∈ u, m.urgent = true)
    (hd : ∀ m ∈ r, m.urgent = true → n.urgent = true) : QueueLaw (u ++ n :: r) where
  places := by simp only [List.length_append, List.length_cons] at hl ⊢; omega
  routines := by
    have := h.routines
    simp only [List.filter_append, List.length_append] at this hr ⊢
    cases hn : n.urgent <;> simp [hn] at hr ⊢ <;> omega
  apart := by
    rw [List.pairwise_middle fun e x => e ⟨x.1.symm, x.2.symm⟩]
    exact List.pairwise_cons.2 ⟨fun m hm e => hn m hm ⟨e.1.symm, e.2.symm⟩, h.apart⟩
  urgentFirst := by
    obtain ⟨pu, pr, between⟩ := List.pairwise_append.1 h.urgentFirst
    refine List.pairwise_append.2 ⟨pu, List.pairwise_cons.2 ⟨hd, pr⟩, fun m hm x hx => ?_⟩
    rcases List.mem_cons.1 hx with rfl | hx
    · exact fun e => hu e m hm
    · exact between m hm x hx

/-- An urgent notice takes its place behind the urgent ones. -/
theorem QueueLaw.placeUrgent {q : List Notice} {n : Notice} (h : QueueLaw q) (hl : q.length < 32)
    (hk : n.urgent = true) (hn : ∀ m ∈ q, ¬ (m.kind = n.kind ∧ m.object = n.object)) :
    QueueLaw (placeUrgent n q) := by
  rw [← List.takeWhile_append_dropWhile (p := Notice.urgent) (l := q)] at h hl hn
  exact h.insert hl (.inl hk) hn (fun _ => List.all_eq_true.1 List.all_takeWhile) fun _ _ _ => hk

theorem queueLaw_placeNotice (k : NoticeKind) (o : Nat) (d : List Byte) {s : State} (h : QueueLaw s.notices) :
    QueueLaw (s.placeNotice k o d).notices := by
  by_cases hm : ∃ m ∈ s.notices, m.kind = k ∧ m.object = o
  · rw [placeNotice_joins d hm]
    exact h.map fun n => by split <;> exact ⟨rfl, rfl⟩
  have hm : ∀ m ∈ s.notices, ¬ (m.kind = k ∧ m.object = o) := fun m hm' e => hm ⟨m, hm', e⟩
  cases hk : k.urgency with
  | routine =>
    by_cases full : 28 ≤ s.routineCount ∨ 32 ≤ s.notices.length
    · rw [placeNotice_routine_refused d hm hk full]; exact h
    · obtain ⟨hr, hl⟩ : s.routineCount < 28 ∧ s.notices.length < 32 := by omega
      rw [placeNotice_routine d hm hk hr hl]
      have routine : (fresh s k o d).urgent = false := by simp [Notice.urgent, fresh, hk]
      rw [← List.append_nil s.notices] at h hl hm
      exact h.insert hl (.inr (by rwa [List.append_nil])) hm (by simp [routine]) (by simp)
  | urgent =>
    have urgent : (fresh s k o d).urgent = true := decide_eq_true hk
    by_cases hl : s.notices.length < 32
    · rw [placeNotice_urgent d hm hk hl]
      exact h.placeUrgent hl urgent hm
    · by_cases hr : ∃ m ∈ s.notices, m.kind.urgency = .routine
      · rw [placeNotice_urgent_displaces d hm hk (by omega) hr]
        have fewer := List.dropLast_sublist s.notices
        have room : s.notices.dropLast.length < 32 := by
          have := h.places
          rw [List.length_dropLast]; omega
        exact (h.sublist fewer).placeUrgent room urgent fun m hm' => hm m (fewer.subset hm')
      · have hu : ∀ m ∈ s.notices, m.kind.urgency = .urgent := fun m hm' => by
          cases hx : m.kind.urgency with
          | urgent => rfl
          | routine => exact absurd ⟨m, hm', hx⟩ hr
        rw [placeNotice_urgent_refused d hm hk (by omega) hu]; exact h

/-- An event that is posted keeps the law of the queue, whether it is masked, joins, takes a place or is refused. -/
theorem queueLaw_post (k : NoticeKind) (o : Nat) (d : List Byte) {s : State} (h : QueueLaw s.notices) :
    QueueLaw (s.post k o d).notices := by
  unfold State.post
  dsimp only
  split
  · exact h
  · exact queueLaw_placeNotice k o d h

end Sys2Proof.NoticeQueue

/-! SUPPORT. The law of the notice queue through what the blocks share: posting is all that reaches the queue (R187). -/
namespace Sys2Proof.NoticeQueue
open Sys2Proof.Machine

/-- The notice queue of a state keeps its law. -/
abbrev Lawful (s : State) : Prop := QueueLaw s.notices

theorem lawful_foldl {α : Type} {f : State → α → State} (hf : ∀ {s x}, Lawful s → Lawful (f s x)) {l : List α}
    {s : State} (h : Lawful s) : Lawful (l.foldl f s) := by
  induction l generalizing s with
  | nil => exact h
  | cons x l ih => exact ih (hf h)

/-! ## Records -/

section Records
variable {s : State} (h : Lawful s)
include h

theorem lawful_post {k : NoticeKind} {o : Nat} {d : List Byte} : Lawful (s.post k o d) := queueLaw_post k o d h
theorem lawful_setFeed {f : Fin 6} {x : Feed} : Lawful (s.setFeed f x) := h
theorem lawful_setPath {p : Fin 8} {x : Path} : Lawful (s.setPath p x) := h
theorem lawful_setSweep {n : Fin 8} {x : SweepList} : Lawful (s.setSweep n x) := h
theorem lawful_setSlot {i : Fin 64} {x : Slot} : Lawful (s.setSlot i x) := h
theorem lawful_setShelf {i : Fin 4} {x : Shelf} : Lawful (s.setShelf i x) := h
theorem lawful_setCarrier {c : Nat} {x : Carrier} : Lawful (s.setCarrier c x) := h
theorem lawful_setService {k : Nat} {v : Service} : Lawful (s.setService k v) := h

theorem lawful_setFrameInput {x : FrameInput} : Lawful { s with frameInput := x } := h
theorem lawful_setParams {P : Params} : Lawful { s with params := P } := h
theorem lawful_setCarriers {t : Store Carrier} : Lawful { s with carriers := t } := h
theorem lawful_setServices {t : Store Service} : Lawful { s with services := t } := h
theorem lawful_setBindings {l : List PairBinding} : Lawful { s with bindings := l } := h
theorem lawful_setSlots {v : Vector Slot 64} : Lawful { s with slots := v } := h
theorem lawful_setRecheckQueue {q : List Recheck} : Lawful { s with recheckQueue := q } := h

end Records

/-! ## Lists and feeds -/

section Feeds
variable {s : State} {p n : Fin 8} {f : Fin 6} (h : Lawful s)
include h

theorem lawful_entryResult {o : MeasOutcome} : Lawful (s.entryResult n o) := by
  unfold State.entryResult
  dsimp only
  split
  · split
    · exact h
    · split
      · exact lawful_setSweep (lawful_post h)
      · exact h
  · exact h

theorem lawful_loanResult : Lawful (s.loanResult n) := by
  unfold State.loanResult
  split <;> exact h

theorem lawful_leaveList : Lawful (s.leaveList n) := h

theorem lawful_joinList : Lawful (s.joinList n) := by
  unfold State.joinList
  split <;> exact h

theorem lawful_setMode {m : PathMode} : Lawful (s.setMode p m) := by
  unfold State.setMode
  dsimp only
  split
  · exact lawful_joinList (lawful_setPath h)
  · exact h

theorem lawful_grant : Lawful (s.grant p f) := by
  unfold State.grant
  dsimp only
  split <;> exact h

theorem lawful_setWaiting {w : List (Fin 8)} : Lawful (s.setWaiting f w) := h

theorem lawful_changeSetting {x : Option Setting} : Lawful (s.changeSetting f x) := h

theorem lawful_serveFrom {w : List (Fin 8)} : Lawful (s.serveFrom f w) := by
  induction w generalizing s with
  | nil => exact h
  | cons p r ih =>
    unfold State.serveFrom
    split
    · split
      · exact ih (lawful_grant (lawful_setWaiting h))
      · exact h
    · split <;> exact h

theorem lawful_serve : Lawful (s.serve f) := by
  unfold State.serve
  split
  · exact lawful_serveFrom h
  · exact h

theorem lawful_scanFrom {w : List (Fin 8)} : Lawful (s.scanFrom f w) := by
  induction w generalizing s with
  | nil => exact h
  | cons p r ih =>
    unfold State.scanFrom
    split
    · exact ih (lawful_grant (lawful_setWaiting h))
    · exact ih h

theorem lawful_scan : Lawful (s.scan f) := by
  have scanned := lawful_scanFrom (f := f) (w := (s.feed f).waiting) h
  unfold State.scan
  dsimp only
  split
  · exact scanned
  · split
    · exact lawful_changeSetting scanned
    · exact scanned

theorem lawful_attach : Lawful (s.attach p f) := by
  unfold State.attach
  dsimp only
  split
  · split
    · split
      · exact lawful_grant h
      · exact h
    · split <;> exact h
  · exact h

theorem lawful_leaveWaiting : Lawful (s.leaveWaiting p f) := by
  unfold State.leaveWaiting
  dsimp only
  split
  · exact lawful_serve (lawful_setWaiting h)
  · exact h

end Feeds

/-! ## Results and windows of a path -/

section Paths
variable {s : State} {p : Fin 8} (h : Lawful s)
include h

theorem lawful_toRequester {r : Result} : Lawful (s.toRequester r) := by
  unfold State.toRequester
  split
  · exact lawful_post h
  · exact lawful_entryResult h
  · exact lawful_loanResult h

theorem lawful_deliver {r : Result} : Lawful (s.deliver r) := by
  unfold State.deliver
  dsimp only
  split
  · exact lawful_setPath (lawful_toRequester h)
  · exact lawful_toRequester h

theorem lawful_endUnstarted {c : Option Nat} {m : Option Meas} {o : MeasOutcome} : Lawful (s.endUnstarted p c m o) := by
  unfold State.endUnstarted
  split
  · exact lawful_deliver h
  · exact h

theorem lawful_tuneFails {c : Nat} {q : Requester} {m : Option Meas} : Lawful (s.tuneFails p c q m) := by
  unfold State.tuneFails
  split <;> exact lawful_deliver h

theorem lawful_enterParked : Lawful (s.enterParked p) := by
  unfold State.enterParked
  dsimp only
  split
  · exact lawful_setMode (lawful_setPath h)
  · exact h

theorem lawful_detach : Lawful (s.detach p) := by
  unfold State.detach
  dsimp only
  split
  · exact lawful_serve (lawful_setPath h)
  · exact h

theorem lawful_tryDetach : Lawful (s.tryDetach p) := by
  unfold State.tryDetach
  dsimp only
  split
  · split
    · exact lawful_detach h
    · exact h
  · exact h

theorem lawful_startRelease : Lawful (s.startRelease p) := lawful_tryDetach (lawful_setPath h)

theorem lawful_takeRelease : Lawful (s.takeRelease p) := by
  unfold State.takeRelease
  dsimp only
  split
  · exact h
  · exact h
  · split
    · exact lawful_endUnstarted (lawful_setPath h)
    · exact h
  · split
    · exact lawful_endUnstarted (lawful_detach h)
    · exact lawful_endUnstarted (lawful_detach (lawful_leaveWaiting h))
    · exact lawful_endUnstarted (lawful_detach h)
  · exact lawful_startRelease (lawful_endUnstarted h)
  · exact lawful_startRelease (lawful_endUnstarted h)
  · exact lawful_startRelease h
  · split
    · exact lawful_startRelease (lawful_endUnstarted (lawful_deliver h))
    · exact lawful_startRelease (lawful_endUnstarted h)

theorem lawful_startWindow {m : Meas} {n : Nat} {b : Stamp} : Lawful (s.startWindow p m n b) := h

theorem lawful_takeMeasure {m : Meas} : Lawful (s.takeMeasure p m) := by
  unfold State.takeMeasure
  dsimp only
  cases (s.path p).state with
  | measuring => dsimp only; split <;> exact h
  | _ => exact h

theorem lawful_endWindow {o : MeasOutcome} {a : Option Announcement} {b : Stamp} : Lawful (s.endWindow p o a b) := by
  unfold State.endWindow
  split
  · dsimp only
    split
    · exact lawful_startWindow (lawful_deliver h)
    · split
      · exact lawful_startRelease (lawful_deliver h)
      · exact lawful_setPath (lawful_deliver h)
  · exact h

theorem lawful_cutWindow {o : MeasOutcome} {b : Stamp} : Lawful (s.cutWindow p o b) := lawful_setPath (lawful_endWindow h)

theorem lawful_endLeadIn {w : Window} {b : Stamp} : Lawful (s.endLeadIn p w b) := by
  unfold State.endLeadIn
  dsimp only
  split <;> exact h

theorem lawful_endCounted {w : Window} {x : PathSample} {b : Stamp} : Lawful (s.endCounted p w x b) := by
  unfold State.endCounted
  dsimp only
  split
  · exact h
  · split
    · exact lawful_cutWindow (lawful_setPath h)
    · split
      · exact lawful_endWindow (lawful_setPath h)
      · exact h

/-! ## Tuning -/

theorem lawful_takeTune {c : Nat} {q : Requester} {m : Option Meas} : Lawful (s.takeTune p c q m) := by
  unfold State.takeTune
  split
  · exact lawful_enterParked (lawful_tuneFails h)
  · split
    · exact lawful_enterParked (lawful_tuneFails h)
    · exact lawful_attach (lawful_setPath h)

theorem lawful_tune {c : Nat} {q : Requester} {m : Option Meas} : Lawful (s.tune p c q m) := by
  unfold State.tune
  split
  · exact h
  · exact lawful_takeTune h

theorem lawful_startHeldTune {t : HeldTune} : Lawful (s.startHeldTune p t) := by
  unfold State.startHeldTune
  dsimp only
  split
  · exact lawful_enterParked (lawful_tuneFails (lawful_setPath h))
  · exact lawful_takeTune (lawful_setPath h)

theorem lawful_cutOff : Lawful (s.cutOff p) := by
  unfold State.cutOff
  dsimp only
  split
  · exact lawful_enterParked (lawful_tuneFails h)
  · exact lawful_enterParked h

theorem lawful_lock : Lawful (s.lock p) := by
  unfold State.lock
  dsimp only
  split <;> exact h

theorem lawful_lockFails : Lawful (s.lockFails p) := by
  unfold State.lockFails
  dsimp only
  split
  · exact lawful_startRelease (lawful_tuneFails (lawful_setPath h))
  · exact lawful_startRelease (lawful_setPath h)

end Paths

/-! ## The Sweep Engine -/

section Engine
variable {s : State} {p n : Fin 8} (h : Lawful s)
include h

theorem lawful_driveAs {d : Drive} {c : Nat} {m : Meas} : Lawful (s.driveAs d p c m) := by
  cases d with
  | tune => exact lawful_tune h
  | measure => exact lawful_takeMeasure h
  | releaseFirst => exact lawful_takeRelease h
  | wait => exact h

theorem lawful_beginEntry : Lawful (s.beginEntry n) := by
  unfold State.beginEntry
  dsimp only
  split
  · exact h
  · split
    · exact lawful_driveAs (lawful_setSweep h)
    · exact h

theorem lawful_issueEntry : Lawful (s.issueEntry n) := by
  unfold State.issueEntry
  dsimp only
  split
  · exact h
  · split
    · exact lawful_tune (lawful_setSweep h)
    · exact h

theorem lawful_issueLoan : Lawful (s.issueLoan n) := by
  unfold State.issueLoan
  dsimp only
  split
  · exact h
  · split
    · exact lawful_tune (lawful_setSweep h)
    · exact h

theorem lawful_lend {e : Recheck} {r : List Recheck} : Lawful (s.lend p e r) :=
  lawful_driveAs (lawful_setSweep (lawful_setRecheckQueue h))

theorem lawful_enterSurvey {x : SurveyState} {c : SurveyCause} : Lawful (s.enterSurvey x c) :=
  lawful_post (s := { s with survey := x }) h

/-- The five actions of the engine, in the order in which it looks for one. -/
theorem lawful_engineAct {t : State} (ht : s.engineAct = some t) : Lawful t := by
  unfold State.engineAct at ht
  split at ht
  · cases ht; exact lawful_issueEntry h
  split at ht
  · cases ht; exact lawful_issueLoan h
  split at ht
  · rename_i lent
    cases ht
    split at lent
    · cases lent
    · obtain ⟨p, -, rfl⟩ := Option.map_eq_some_iff.1 lent
      exact lawful_lend h
  split at ht
  · cases ht; exact lawful_beginEntry h
  split at ht <;> cases ht
  exact lawful_enterSurvey h

theorem lawful_runEngineFor {k : Nat} : Lawful (s.runEngineFor k) := by
  induction k generalizing s with
  | zero => exact h
  | succ k ih =>
    unfold State.runEngineFor
    split
    · exact ih (lawful_engineAct h ‹_›)
    · exact h

theorem lawful_runEngine : Lawful s.runEngine := lawful_runEngineFor h

theorem lawful_newRecheck {e : Recheck} : Lawful (s.newRecheck e) := by
  unfold State.newRecheck State.dropped
  split
  · exact h
  · split
    · split
      · exact lawful_post h
      · exact lawful_post (lawful_setRecheckQueue h)
    · exact lawful_post h

theorem lawful_requestRecheck {c : Nat} {k : MeasClass} {u : Urgency} {r : RecheckReason} :
    Lawful (s.requestRecheck c k u r) := by
  unfold State.requestRecheck State.meetRecheck
  dsimp only
  split
  · exact h
  · split
    · split <;> exact h
    · exact lawful_runEngine (lawful_newRecheck h)

theorem lawful_mapLists {g : Fin 8 → SweepList → SweepList} : Lawful (s.mapLists g) :=
  lawful_foldl (fun ht => lawful_setSweep ht) h

end Engine

end Sys2Proof.NoticeQueue

/-! SUPPORT. The law of the notice queue through reports, slots, scores and services. -/
namespace Sys2Proof.NoticeQueue
open Sys2Proof.Machine

/-! ## What a slot lets go of -/

section Candidates
variable {s : State} (h : Lawful s)
include h

theorem lawful_dropEmpty {k : Nat} : Lawful (s.dropEmpty k) := by
  unfold State.dropEmpty
  split
  · split <;> exact h
  · exact h

theorem lawful_freeCandidate {n : CandName} : Lawful (s.freeCandidate n) := by
  unfold State.freeCandidate
  split
  · exact h
  · split
    · exact h
    · exact lawful_dropEmpty (lawful_setSlots (lawful_setService h))

theorem lawful_letGo {n : Option CandName} : Lawful (s.letGo n).1 := by
  unfold State.letGo
  split
  · exact h
  · split
    · exact h
    · split
      · exact lawful_freeCandidate h
      · exact h

theorem lawful_replaced {old : Option CandName} {n : CandName} : Lawful (s.replaced old n).1 := by
  unfold State.replaced
  split
  · exact h
  · exact lawful_letGo h

theorem lawful_unbound {b : Option SlotBinding} : Lawful (s.unbound b) := by
  unfold State.unbound
  split
  · exact lawful_dropEmpty h
  · exact h

theorem lawful_reviseCandidate {n : CandName} {g : Candidate → Candidate} : Lawful (s.reviseCandidate n g) := by
  unfold State.reviseCandidate
  split
  · exact h
  · split <;> exact h

theorem lawful_releaseCandidates {c : Nat} : Lawful (s.releaseCandidates c) :=
  lawful_foldl (fun ht => by
    unfold State.releaseCandidate
    split
    · exact lawful_reviseCandidate ht
    · exact lawful_freeCandidate ht) h

theorem lawful_freeCandidates {c : Nat} : Lawful (s.freeCandidates c) :=
  lawful_foldl (fun ht => lawful_freeCandidate ht) h

end Candidates

/-! ## Orders -/

section Orders
variable {s : State} {i : Fin 64} (h : Lawful s)
include h

theorem lawful_send {g : Fin 4} : Lawful (s.send g) := h
theorem lawful_enqueue {g : Fin 4} {o : Fin 16} {k : OrderKind} : Lawful (s.enqueue g o k) := h

theorem lawful_handSet {n : CandName} : Lawful (s.handSet i n) := by
  unfold State.handSet
  split <;> exact h

theorem lawful_giveOrder {n : CandName} {r : OrderReason} : Lawful (s.giveOrder i n r) :=
  lawful_handSet (lawful_setSlot h)

end Orders

/-! ## Evaluation and reports -/

section Reports
variable {s : State} {i : Fin 64} (h : Lawful s)
include h

theorem lawful_seek : Lawful (s.seek i) := by
  unfold State.seek
  split
  · exact lawful_giveOrder h
  · exact h

theorem lawful_failOver {n : CandName} {c : FailCause} : Lawful (s.failOver i n c).1 := by
  unfold State.failOver
  split
  · exact lawful_post (lawful_giveOrder h)
  · exact lawful_letGo (lawful_post (lawful_setSlot h))

theorem lawful_challenge {act : Candidate} {ev : Option RankReport} : Lawful (s.challenge i act ev) := by
  unfold State.challenge
  dsimp only
  split
  · exact h
  · split
    · split
      · exact lawful_giveOrder (lawful_requestRecheck (lawful_setSlot h))
      · exact lawful_requestRecheck (lawful_setSlot h)
    · split
      · exact lawful_giveOrder (lawful_setSlot h)
      · exact h

theorem lawful_evaluate {ev : Option RankReport} : Lawful (s.evaluate i ev).1 := by
  unfold State.evaluate
  dsimp only
  cases (s.slot i).state with
  | seeking => exact lawful_seek h
  | onAir =>
    dsimp only
    split
    · exact h
    · exact lawful_failOver h
    · split
      · exact lawful_failOver h
      · exact lawful_challenge h
  | _ => exact h

theorem lawful_watch {r : RankReport} : Lawful (s.watch i r) := by
  unfold State.watch
  dsimp only
  split
  · split
    · exact lawful_requestRecheck h
    · exact h
  · exact h

theorem lawful_takeReport {r : RankReport} {l : List (Fin 64)} : Lawful (s.takeReport r l).1 := by
  induction l generalizing s with
  | nil => exact h
  | cons i l ih => exact ih (lawful_watch (lawful_evaluate h))

theorem lawful_handReportsFor {k : Nat} {rs : List RankReport} : Lawful (s.handReportsFor k rs) := by
  induction k generalizing s rs with
  | zero => exact h
  | succ k ih =>
    cases rs with
    | nil => exact h
    | cons r rs => exact ih (lawful_takeReport h)

theorem lawful_handReports {rs : List RankReport} : Lawful (s.handReports rs) := lawful_handReportsFor h

theorem lawful_reportServices {l : List Nat} {k : RankCause} {c : Option Nat} : Lawful (s.reportServices l k c) :=
  lawful_handReports h

theorem lawful_reportCarrier {c : Nat} {k : RankCause} {b : Reception} : Lawful (s.reportCarrier c k b) :=
  lawful_handReports h

end Reports

theorem lawful_settleReports {x : State × List RankReport} (h : Lawful x.1) : Lawful (State.settleReports x) :=
  lawful_handReports h

/-! ## The Score Unit -/

section Score
variable {s : State} {c : Nat} (h : Lawful s)
include h

theorem lawful_replanned : Lawful (s.replanned c) := by
  unfold State.replanned
  split
  · exact h
  · exact lawful_reportCarrier (lawful_setCarrier h)

theorem lawful_ageCarrier : Lawful (s.ageCarrier c) := by
  unfold State.ageCarrier
  split
  · exact h
  · rename_i x _
    cases x.reception.state with
    | fresh => exact lawful_reportCarrier (lawful_setCarrier h)
    | _ => exact h

theorem lawful_retimeCarrier : Lawful (s.retimeCarrier c) := by
  unfold State.retimeCarrier
  split
  · exact h
  · split
    · split
      · exact lawful_ageCarrier h
      · exact h
    · exact h

theorem lawful_retime : Lawful s.retime := lawful_foldl (fun ht => lawful_retimeCarrier ht) h

theorem lawful_watchVersion {v : Nat} : Lawful (s.watchVersion c v) := by
  unfold State.watchVersion
  split
  · exact h
  · split
    · exact h
    · split
      · exact h
      · exact lawful_requestRecheck (lawful_post (lawful_setCarrier h))
    · split
      · exact h
      · exact lawful_requestRecheck h

theorem lawful_applyScored {r : Result} : Lawful (s.applyScored r) := by
  unfold State.applyScored
  split
  · exact h
  · dsimp only
    split
    · exact lawful_watchVersion (lawful_reportCarrier (lawful_setCarrier h))
    · exact lawful_reportCarrier (lawful_setCarrier h)

theorem lawful_applyMiss {cause : MissCause} {level : Option Nat} : Lawful (s.applyMiss c cause level) := by
  unfold State.applyMiss
  split
  · exact h
  · dsimp only
    split
    · exact lawful_reportCarrier (lawful_post (lawful_setCarrier h))
    · exact lawful_reportCarrier (lawful_setCarrier h)

theorem lawful_applyLevel {r : Result} : Lawful (s.applyLevel r) := by
  unfold State.applyLevel
  split <;> exact h

theorem lawful_restartScores : Lawful s.restartScores :=
  lawful_foldl (fun ht => lawful_reportCarrier ht) (lawful_setCarriers h)

end Score

end Sys2Proof.NoticeQueue

/-! SUPPORT. The law of the notice queue through the requests of Table 13-2 and the Control Link. -/
namespace Sys2Proof.NoticeQueue
open Sys2Proof.Machine

/-! ## The plan, the feeds and the parameters -/

section Plan
variable {s : State} {c : Nat} (h : Lawful s)
include h

theorem lawful_putPlan {p : Plan} : Lawful (s.putPlan c p) := by
  unfold State.putPlan State.reEnable
  split
  · exact h
  · split
    · exact lawful_reportServices (lawful_setCarrier (lawful_post (lawful_releaseCandidates (lawful_setCarrier
        (lawful_replanned (lawful_setCarrier h))))))
    · split
      · exact lawful_replanned (lawful_setCarrier h)
      · dsimp only
        split
        · exact lawful_reportServices (lawful_setCarrier h)
        · exact h

theorem lawful_disableCarrier {x : Carrier} : Lawful (s.disableCarrier c x) := by
  refine lawful_runEngine (lawful_reportServices (lawful_foldl (fun ht => ?_)
    (lawful_setRecheckQueue (lawful_setCarrier h))))
  split
  · exact lawful_takeRelease ht
  · exact ht

theorem lawful_eraseCarrier : Lawful (s.eraseCarrier c) :=
  lawful_setCarriers (lawful_reportServices (lawful_freeCandidates h))

theorem lawful_setFeedUp {o : FeedSetting} : Lawful (s.setFeedUp o) := by
  unfold State.setFeedUp
  dsimp only
  split
  · exact h
  · exact lawful_reportServices (lawful_setFeed h)

theorem lawful_writeParams {l : List ParamItem} : Lawful (s.writeParams l) := by
  unfold State.writeParams
  dsimp only
  split
  · exact lawful_retime (lawful_setParams h)
  · exact h

end Plan

/-! ## Paths and the survey -/

section Survey
variable {s : State} (h : Lawful s)
include h

theorem lawful_askMode {p : Fin 8} {m : PathMode} : Lawful (s.askMode p m) := by
  unfold State.askMode State.pendMode
  split
  · exact h
  · split
    · exact lawful_runEngine (lawful_setMode h)
    · dsimp only
      split
      · exact lawful_runEngine (lawful_takeRelease (lawful_leaveList (lawful_setPath h)))
      · exact lawful_runEngine (lawful_takeRelease (lawful_setPath h))

theorem lawful_startSurvey : Lawful s.startSurvey := lawful_runEngine (lawful_mapLists (lawful_enterSurvey h))

theorem lawful_pauseSurvey : Lawful s.pauseSurvey := lawful_mapLists (lawful_enterSurvey h)

theorem lawful_resumeSurvey : Lawful s.resumeSurvey := lawful_runEngine (lawful_mapLists (lawful_enterSurvey h))

theorem lawful_releaseListPaths : Lawful s.releaseListPaths :=
  lawful_foldl (fun ht => by
    split
    · exact lawful_takeRelease ht
    · exact ht) h

theorem lawful_stopSurvey : Lawful s.stopSurvey :=
  lawful_runEngine (lawful_releaseListPaths (lawful_setRecheckQueue (lawful_mapLists (lawful_enterSurvey h))))

end Survey

/-! ## Services -/

section Services
variable {s : State} {key : Nat} (h : Lawful s)
include h

theorem lawful_trimMerged : Lawful (s.trimMerged key) := by
  unfold State.trimMerged
  dsimp only
  split
  · exact h
  · exact lawful_post (lawful_foldl (fun ht => lawful_freeCandidate ht) h)

theorem lawful_merge {found : Nat} {f : Service} : Lawful (s.merge found key f) :=
  lawful_reportServices (lawful_setServices (lawful_setSlots (lawful_trimMerged (lawful_setService
    (lawful_setService h)))))

theorem lawful_bindPair {p : Pair} : Lawful (s.bindPair p key) := by
  have bound : Lawful (s.bind p key) := h
  unfold State.bindPair
  dsimp only
  split
  · split
    · exact lawful_merge bound
    · exact bound
  · split <;> exact bound

theorem lawful_dropService : Lawful (s.dropService key) :=
  lawful_setServices (lawful_foldl (fun ht => lawful_freeCandidate ht) (lawful_setBindings h))

end Services

/-! ## Slots -/

section Slots
variable {s : State} {i : Fin 64} (h : Lawful s)
include h

theorem lawful_setSlotUp {o : SlotSetting} : Lawful (s.setSlotUp o) :=
  lawful_handReports (lawful_evaluate (lawful_unbound (lawful_letGo (lawful_setSlot h))))

theorem lawful_clearSlot : Lawful (s.clearSlot i) := by
  unfold State.clearSlot State.handClear
  dsimp only
  split
  · exact h
  · exact lawful_handReports (lawful_unbound (lawful_letGo (lawful_setSlot (lawful_enqueue h))))

theorem lawful_pinSlot {n : CandName} : Lawful (s.pinSlot i n) := by
  unfold State.pinSlot
  dsimp only
  split
  · exact h
  · exact lawful_giveOrder (lawful_setSlot h)

theorem lawful_unpinSlot : Lawful (s.unpinSlot i) := by
  unfold State.unpinSlot
  dsimp only
  split
  · exact lawful_settleReports (lawful_evaluate (lawful_setSlot h))
  · exact h

theorem lawful_resumeSlot : Lawful (s.resumeSlot i) := lawful_settleReports (lawful_evaluate (lawful_setSlot h))

end Slots

/-! ## The handlers -/

theorem lawful_carryOut {α : Type} {act : α → State → Answer × State} {s : State} {c : Checked α} (h : Lawful s)
    (hact : ∀ x, Lawful (act x s).2) : Lawful (carryOut c act s).2 := by
  cases c with
  | error a => exact h
  | ok x => exact hact x

theorem lawful_carryOutOk {α : Type} {act : α → State → State} {s : State} {c : Checked α} (h : Lawful s)
    (hact : ∀ x, Lawful (act x s)) : Lawful (carryOutOk c act s).2 := lawful_carryOut h hact

section Handlers
variable {body : List Byte} {s : State} (h : Lawful s)
include h

theorem lawful_handlePlanDisable : Lawful (handlePlanDisable body s).2 := by
  refine lawful_carryOutOk h fun c => ?_
  split
  · split
    · exact lawful_disableCarrier h
    · exact h
  · exact h

theorem lawful_handleParamSet : Lawful (handleParamSet body s).2 := by
  unfold handleParamSet State.fieldByte
  split
  · exact h
  · exact h
  · split
    · dsimp only
      split <;> exact h
    · split
      · exact h
      · exact lawful_writeParams h

theorem lawful_handleParamGet : Lawful (handleParamGet body s).2 := by
  unfold handleParamGet
  split <;> exact h

/-- LIST_WRITE reaches Plan Memory and the count of free values, whichever of its checks decides. -/
theorem lawful_handleListWrite : Lawful (handleListWrite body s).2 := by
  unfold handleListWrite State.runRange
  split
  · dsimp only
    split
    · exact h
    · split
      · exact h
      · split
        · exact h
        · split
          · exact h
          · split
            · exact h
            · split <;> exact h
  · exact h

theorem lawful_handleReadStatus : Lawful (handleReadStatus body s).2 := by
  unfold handleReadStatus
  split <;> exact h

/-- NOTICE_FETCH takes notices off the front (R189). -/
theorem lawful_fetchNotices {n : Nat} : Lawful (s.fetchNotices n).2 := by
  have fewer : QueueLaw (s.notices.drop n) := h.sublist (List.drop_sublist _ _)
  unfold State.fetchNotices
  dsimp only
  split <;> exact fewer

/-- The handlers, kind by kind, in the order of Table 13-2. -/
theorem lawful_handler {kind : Byte} {act : List Byte → State → Answer × State} (hk : handlerOf kind = some act) :
    Lawful (act body s).2 := by
  unfold handlerOf at hk
  split at hk <;> cases hk
  · exact lawful_carryOutOk h fun _ => lawful_putPlan h
  · exact lawful_handlePlanDisable h
  · exact lawful_carryOutOk h fun _ => lawful_eraseCarrier h
  · exact lawful_carryOutOk h fun _ => lawful_setFeedUp h
  · exact lawful_carryOutOk h fun _ => h
  · exact lawful_handleParamSet h
  · exact lawful_handleParamGet h
  · exact lawful_handleListWrite h
  · exact lawful_carryOutOk h fun _ => h
  · exact lawful_carryOutOk h fun _ => lawful_runEngine (lawful_setSweep h)
  · exact lawful_carryOutOk h fun _ => lawful_askMode h
  · exact lawful_carryOutOk h fun _ => lawful_tune h
  · exact lawful_carryOutOk h fun _ => lawful_takeMeasure h
  · exact lawful_carryOutOk h fun _ => lawful_takeRelease h
  · exact lawful_carryOutOk h fun _ => lawful_requestRecheck h
  · exact lawful_carryOutOk h fun _ => lawful_startSurvey h
  · exact lawful_carryOutOk h fun _ => lawful_pauseSurvey h
  · exact lawful_carryOutOk h fun _ => lawful_resumeSurvey h
  · exact lawful_carryOutOk h fun _ => lawful_stopSurvey h
  · exact lawful_carryOutOk h fun _ => h
  · exact lawful_carryOutOk h fun _ => lawful_bindPair h
  · exact lawful_carryOutOk h fun _ => h
  · exact lawful_carryOutOk h fun _ => lawful_dropService h
  · exact lawful_carryOutOk h fun _ => lawful_setSlotUp h
  · exact lawful_carryOutOk h fun _ => lawful_clearSlot h
  · exact lawful_carryOutOk h fun _ => lawful_pinSlot h
  · exact lawful_carryOutOk h fun _ => lawful_unpinSlot h
  · exact lawful_carryOutOk h fun _ => lawful_resumeSlot h
  iterate 7 exact h
  · exact lawful_handleReadStatus h
  · exact lawful_carryOut h fun _ => lawful_fetchNotices h
  · exact lawful_carryOut h fun _ => h

end Handlers

/-! ## A request from its frame to its reply -/

section Link
variable {s : State} (h : Lawful s)
include h

theorem lawful_discardFrame : Lawful s.discardFrame := by
  rw [Lines.discardFrame_eq, State.discards]
  split
  · exact h
  · split <;> exact h

theorem lawful_answer {r : Request} : Lawful (s.answer r) := by
  unfold State.answer
  split
  · rename_i act found
    exact lawful_handler (body := r.body) h found
  · exact h

/-- A request that completes is discarded, waits, or is answered. -/
theorem lawful_request {kind tag : Byte} {body : List Byte} : Lawful (s.request kind tag body) := by
  have hunting : Lawful s.hunts := h
  rw [State.request_eq]
  split
  · exact lawful_discardFrame hunting
  · split
    · exact hunting
    · exact lawful_answer hunting

theorem lawful_linkGap : Lawful s.linkGap := by
  unfold State.linkGap
  split
  · exact lawful_discardFrame (lawful_setFrameInput h)
  · exact h

theorem lawful_linkEvent {e : FrameEvent} : Lawful (s.linkEvent e) := by
  cases e with
  | none => exact h
  | discard => exact lawful_discardFrame h
  | frame kind tag body => exact lawful_request h

theorem lawful_linkChar {c : LineChar} : Lawful (s.linkChar c) := by
  rw [Lines.linkChar_eq]
  exact lawful_linkEvent (lawful_setFrameInput h)

theorem lawful_linkChars {l : List LineChar} : Lawful (s.linkChars l) :=
  lawful_foldl (fun ht => lawful_linkChar ht) (lawful_linkGap h)

/-- The requests that waited for a restart are taken as those that arrive. -/
theorem lawful_takeWaiting {l : List Awaiting} : Lawful (s.takeWaiting l) := by
  induction l generalizing s with
  | nil => exact h
  | cons a rest ih =>
    cases a with
    | frameError => exact ih h
    | request r =>
      unfold State.takeWaiting
      split
      · exact h
      · exact ih (lawful_answer (s := { s with waiting := rest }) h)

end Link

end Sys2Proof.NoticeQueue

/-! SUPPORT. The law of the notice queue through the Shelf Lines, the timers, the results taken and the restarts. -/
namespace Sys2Proof.NoticeQueue
open Sys2Proof.Machine

/-! ## Orders and their outcomes -/

section Outcomes
variable {s : State} {i : Fin 64} (h : Lawful s)
include h

theorem lawful_routeDone : Lawful (s.routeDone i) := by
  unfold State.routeDone
  dsimp only
  split
  · exact h
  · split <;> exact lawful_handReports (lawful_evaluate (lawful_post (lawful_replaced (lawful_setSlot h))))

theorem lawful_routeFails {f : RouteFailure} : Lawful (s.routeFails i f) := by
  unfold State.routeFails
  dsimp only
  split
  · exact h
  · split
    · exact lawful_handReports (lawful_evaluate (lawful_post (lawful_setSlot (lawful_letGo (lawful_setSlot h)))))
    · exact lawful_handReports (lawful_evaluate (lawful_setSlot (lawful_letGo (lawful_setSlot h))))

theorem lawful_lateDone {tag : Byte} : Lawful (s.lateDone i tag) := by
  unfold State.lateDone
  dsimp only
  split
  · exact lawful_post h
  · exact lawful_handReports (lawful_evaluate (lawful_post (lawful_replaced (lawful_setSlot h))))

theorem lawful_resyncSlot {g : Fin 4} : Lawful (s.resyncSlot g i) := by
  unfold State.resyncSlot
  dsimp only
  split
  · split
    · exact lawful_giveOrder h
    · exact h
  · split
    · exact lawful_giveOrder h
    · exact h
  · exact h

theorem lawful_reorderSlot : Lawful (s.reorderSlot i) := by
  unfold State.reorderSlot
  dsimp only
  split
  · exact lawful_giveOrder h
  · exact h

end Outcomes

/-! ## The replies of the shelves -/

section Shelves
variable {s : State} {g : Fin 4} (h : Lawful s)
include h

theorem lawful_alive : Lawful (s.alive g) := h
theorem lawful_land : Lawful (s.land g) := h
theorem lawful_shelfHunts : Lawful (s.shelfHunts g) := h

theorem lawful_orderFails {o : Order} {f : RouteFailure} : Lawful (s.orderFails g o f) := by
  unfold State.orderFails
  dsimp only
  split
  · exact lawful_send (lawful_routeFails h)
  · exact h

theorem lawful_shelfAccept {tag : Byte} : Lawful (s.shelfAccept g tag) := by
  unfold State.shelfAccept
  dsimp only
  split <;> exact h

theorem lawful_shelfDone {tag : Byte} {o : Fin 16} : Lawful (s.shelfDone g tag o) := by
  unfold State.shelfDone
  dsimp only
  split
  · split
    · exact lawful_send (lawful_routeDone (lawful_land (lawful_alive h)))
    · exact h
  · split
    · exact lawful_lateDone (lawful_alive h)
    · exact h

theorem lawful_shelfReject {tag : Byte} {o : Fin 16} {r : Nat} : Lawful (s.shelfReject g tag o r) := by
  unfold State.shelfReject
  dsimp only
  split
  · exact lawful_orderFails (lawful_land (lawful_alive h))
  · exact h

theorem lawful_shelfLoss {o : Fin 16} : Lawful (s.shelfLoss g o) := by
  unfold State.shelfLoss
  dsimp only
  split
  · split
    · exact lawful_applyMiss (lawful_alive h)
    · exact h
  · exact h

theorem lawful_resync : Lawful (s.resync g) := lawful_foldl (fun ht => lawful_resyncSlot ht) h

theorem lawful_shelfReady : Lawful (s.shelfReady g) := lawful_send (lawful_resync (lawful_post (lawful_setShelf h)))

theorem lawful_takeReply {r : ShelfReply} : Lawful (s.takeReply g r) := by
  cases r with
  | accept tag => exact lawful_shelfAccept h
  | done tag o => exact lawful_shelfDone h
  | reject tag o reason => exact lawful_shelfReject h
  | loss o => exact lawful_shelfLoss h
  | ready => exact lawful_shelfReady h

theorem lawful_shelfFrame {kind tag : Byte} {body : List Byte} : Lawful (s.shelfFrame g kind tag body) := by
  unfold State.shelfFrame
  split
  · exact lawful_takeReply h
  · exact h

theorem lawful_shelfReply {kind tag : Byte} {body : List Byte} : Lawful (s.shelfReply g kind tag body) :=
  lawful_shelfFrame (lawful_shelfHunts h)

theorem lawful_shelfEvent {e : FrameEvent} : Lawful (s.shelfEvent g e) := by
  cases e with
  | none => exact h
  | discard => exact h
  | frame kind tag body => exact lawful_shelfFrame h

theorem lawful_shelfChar {c : LineChar} : Lawful (s.shelfChar g c) := by
  rw [Lines.shelfChar_eq]
  exact lawful_shelfEvent (lawful_setShelf h)

theorem lawful_shelfGap : Lawful (s.shelfGap g) := by
  unfold State.shelfGap
  split <;> exact h

theorem lawful_shelfChars {l : List LineChar} : Lawful (s.shelfChars g l) :=
  lawful_foldl (fun ht => lawful_shelfChar ht) (lawful_shelfGap h)

theorem lawful_orderTimesOut {f : Flight} : Lawful (s.orderTimesOut g f) := by
  unfold State.orderTimesOut
  dsimp only
  split
  · exact lawful_orderFails (lawful_post (lawful_setShelf (lawful_setShelf h)))
  · exact lawful_orderFails (lawful_setShelf h)

theorem lawful_shelfTimerEnd {stage : Stage} : Lawful (s.shelfTimerEnd g stage) := by
  unfold State.shelfTimerEnd
  split
  · split
    · exact lawful_orderTimesOut h
    · exact h
  · exact h

end Shelves

/-! ## Feeds -/

section FeedTimers
variable {s : State} {f : Fin 6} (h : Lawful s)
include h

theorem lawful_settingSettles : Lawful (s.settingSettles f) := by
  unfold State.settingSettles
  dsimp only
  split
  · exact lawful_scan (lawful_setFeed h)
  · exact h

theorem lawful_retryBegins : Lawful (s.retryBegins f) := by
  unfold State.retryBegins
  dsimp only
  split <;> exact h

theorem lawful_retrySettles : Lawful (s.retrySettles f) := by
  unfold State.retrySettles
  dsimp only
  split
  · exact lawful_serve (lawful_setFeed h)
  · exact h

theorem lawful_faultsCleared : Lawful (s.faultsCleared f) := by
  unfold State.faultsCleared
  dsimp only
  split <;> exact h

theorem lawful_feedFault : Lawful (s.feedFault f) := lawful_post (lawful_setFeed h)
theorem lawful_feedFall : Lawful (s.feedFall f) := lawful_post (lawful_setFeed h)

theorem lawful_overcurrent : Lawful (s.overcurrent f) := by
  unfold State.overcurrent
  dsimp only
  split
  · split
    · exact lawful_feedFault h
    · exact lawful_runEngine (lawful_foldl (fun ht => lawful_cutOff ht) (lawful_feedFall h))
  · exact h

end FeedTimers

/-! ## Paths and lists -/

section PathTimers
variable {s : State} {p n : Fin 8} (h : Lawful s)
include h

theorem lawful_tuneStarts : Lawful (s.tuneStarts p) := by
  unfold State.tuneStarts
  dsimp only
  split
  · split <;> exact h
  · exact h

theorem lawful_settles : Lawful (s.settles p) := by
  unfold State.settles
  dsimp only
  split <;> exact h

theorem lawful_acquires : Lawful (s.acquires p) := by
  unfold State.acquires
  split
  · exact lawful_lock h
  · exact h

theorem lawful_lockTimesOut : Lawful (s.lockTimesOut p) := by
  unfold State.lockTimesOut
  dsimp only
  split
  · exact lawful_runEngine (lawful_lockFails h)
  · exact h

theorem lawful_blockEnds {b : BlockSample} : Lawful (s.blockEnds p b) := by
  unfold State.blockEnds
  dsimp only
  split
  · split
    · split
      · exact lawful_endLeadIn h
      · exact lawful_runEngine (lawful_endCounted h)
    · exact h
  · exact h

theorem lawful_sectionArrives {x : AnnouncementSection} : Lawful (s.sectionArrives p x) := by
  unfold State.sectionArrives State.completeRead
  dsimp only
  split
  · split
    · exact h
    · split
      · split
        · exact lawful_runEngine (lawful_endWindow (lawful_setPath h))
        · exact h
      · exact h
  · exact h

theorem lawful_contentTimesOut : Lawful (s.contentTimesOut p) := by
  unfold State.contentTimesOut
  dsimp only
  split
  · split
    · exact lawful_runEngine (lawful_endWindow h)
    · exact h
  · exact h

theorem lawful_detachPasses : Lawful (s.detachPasses p) := by
  unfold State.detachPasses
  split
  · exact lawful_runEngine (lawful_tryDetach h)
  · exact h

theorem lawful_recovers : Lawful (s.recovers p) := by
  unfold State.recovers
  dsimp only
  split
  · split
    · exact lawful_runEngine (lawful_startHeldTune h)
    · exact lawful_runEngine (lawful_enterParked h)
  · exact h

theorem lawful_tickEnds : Lawful s.tickEnds := by
  unfold State.tickEnds
  split <;> exact h

theorem lawful_setFreeCount {k : Nat} : Lawful { s with freeCount := k } := h

theorem lawful_finishList {l : SweepList} {d : Descriptor} {r : DoneReason} : Lawful (s.finishList n l d r) := by
  unfold State.finishList
  dsimp only
  split
  · exact lawful_post (lawful_setSweep (lawful_setFreeCount h))
  · exact lawful_takeRelease (lawful_post (lawful_setSweep (lawful_setFreeCount h)))

theorem lawful_advance : Lawful (s.advance n) := by
  unfold State.advance
  dsimp only
  split
  · exact h
  · split
    · split
      · exact lawful_finishList h
      · split
        · exact lawful_finishList h
        · exact h
    · exact h

theorem lawful_restEnds : Lawful (s.restEnds n) := by
  unfold State.restEnds
  split
  · exact lawful_runEngine (lawful_advance h)
  · exact h

end PathTimers

/-! ## Results taken -/

section Results
variable {s : State} {c : Nat} (h : Lawful s)
include h

theorem lawful_taken {p : Fin 8} {n : Nat} : Lawful (s.taken p n) := lawful_runEngine (lawful_tryDetach (lawful_setPath h))

theorem lawful_scoreTakes {p : Fin 8} {kind : Result → Bool} {act : Result → State → State}
    (hact : ∀ r, Lawful (act r s)) : Lawful (s.scoreTakes p kind act) := by
  unfold State.scoreTakes
  split
  · split
    · dsimp only
      split
      · exact lawful_taken (hact _)
      · exact lawful_taken h
    · exact h
  · exact h

theorem lawful_makeCandidate {key : Nat} {e : Announced} : Lawful (s.makeCandidate key c e) := by
  unfold State.makeCandidate
  split <;> exact h

theorem lawful_fileUnder {key : Nat} {e : Announced} {v : Service} : Lawful (s.fileUnder key c e v).1 := by
  unfold State.fileUnder State.tableFull
  split
  · split
    · split
      · exact lawful_makeCandidate (lawful_freeCandidate h)
      · exact lawful_post h
    · exact h
  · split
    · exact lawful_post h
    · exact lawful_makeCandidate h

theorem lawful_fileNew {p : Pair} {e : Announced} : Lawful (s.fileNew p c e).1 := by
  unfold State.fileNew State.tableFull
  split
  · exact lawful_post h
  · split
    · exact lawful_post h
    · split
      · exact lawful_post h
      · exact lawful_makeCandidate (lawful_post (lawful_setService h))

theorem lawful_fileEntry {network : Nat} {e : Announced} {l : List Nat} : Lawful (s.fileEntry network c e l).1 := by
  unfold State.fileEntry
  dsimp only
  split
  · split
    · exact h
    · split <;> exact h
  · split
    · split
      · exact lawful_fileUnder h
      · exact h
    · have kept := lawful_fileNew (c := c) (p := ⟨network, e.serviceId⟩) (e := e) h
      split <;> rename_i filed <;> simpa only [filed] using kept

theorem lawful_fileEntries {network : Nat} {l : List Announced} {touched : List Nat} :
    Lawful (State.fileEntries network c l s touched).1 := by
  induction l generalizing s touched with
  | nil => exact h
  | cons e l ih => exact ih (lawful_fileEntry h)

theorem lawful_compareIdentity {stored : Option Multiplex} {new : Multiplex} :
    Lawful (s.compareIdentity c stored new).1 := by
  unfold State.compareIdentity
  split
  · exact h
  · split
    · exact h
    · exact lawful_post (lawful_releaseCandidates h)

theorem lawful_applyAnnouncement {a : Announcement} : Lawful (s.applyAnnouncement c a) := by
  unfold State.applyAnnouncement
  split
  · exact h
  · exact lawful_reportServices (lawful_foldl (fun ht => lawful_reviseCandidate ht)
      (lawful_fileEntries (lawful_setCarrier (lawful_compareIdentity h))))

theorem lawful_registryTakes {p : Fin 8} : Lawful (s.registryTakes p) := by
  unfold State.registryTakes
  split
  · dsimp only
    split
    · exact lawful_taken (lawful_applyAnnouncement h)
    · exact lawful_taken h
  · exact h

theorem lawful_staleEnds : Lawful (s.staleEnds c) := by
  unfold State.staleEnds
  split
  · split
    · exact lawful_ageCarrier h
    · exact h
  · exact h

theorem lawful_holdDownPasses {i : Fin 64} : Lawful (s.holdDownPasses i) := by
  unfold State.holdDownPasses
  split
  · exact lawful_settleReports (lawful_evaluate (lawful_setSlot h))
  · exact h

theorem lawful_barPasses {i : Fin 64} : Lawful (s.barPasses i) := by
  unfold State.barPasses
  split
  · exact lawful_settleReports (lawful_evaluate (lawful_setSlot h))
  · exact h

end Results

/-! ## Restarts and cold starts -/

section Restarts
variable {s : State} (h : Lawful s)
include h

theorem lawful_abortProbe {p : Fin 8} {c : Option Nat} {m : Option Meas} : Lawful (s.abortProbe p c m) := by
  unfold State.abortProbe
  split
  · split
    · exact lawful_toRequester h
    · exact h
    · exact h
  · exact h

theorem lawful_abortProbeWindow {p : Fin 8} : Lawful (s.abortProbeWindow p) := by
  unfold State.abortProbeWindow
  split
  · split
    · exact lawful_toRequester h
    · exact h
    · exact h
  · exact h

theorem lawful_restartPath {p : Fin 8} : Lawful (s.restartPath p) :=
  lawful_setPath (lawful_abortProbe (lawful_abortProbe (lawful_abortProbe (lawful_abortProbeWindow h))))

theorem lawful_restartSurvey : Lawful s.restartSurvey := by
  unfold State.restartSurvey
  extract_lets stopped cleared parked idle dropped reordered
  have hstopped : Lawful stopped := by
    unfold stopped
    split
    · exact h
    · exact lawful_enterSurvey h
  have hcleared : Lawful cleared := by simpa only [Lawful, cleared] using hstopped
  have hparked : Lawful parked := lawful_foldl (fun ht => lawful_restartPath ht) hcleared
  have hdropped : Lawful dropped := by simpa only [Lawful, dropped, idle] using hparked
  exact lawful_restartScores (lawful_foldl (fun ht => lawful_reorderSlot ht) hdropped)

/-- A restart that is due is carried out, and the requests that waited are taken. -/
theorem lawful_carryRestart {scope : RestartScope} {act : State → State} (hact : Lawful (act s)) :
    Lawful (s.carryRestart scope act) := by
  unfold State.carryRestart
  split
  · exact lawful_takeWaiting (s := { act s with restarting := none }) hact
  · exact h

end Restarts

theorem queueLaw_nil : QueueLaw [] := ⟨Nat.zero_le _, Nat.zero_le _, .nil, .nil⟩

theorem lawful_coldStart {s : State} : Lawful s.coldStart := queueLaw_nil
theorem lawful_restartAll {s : State} : Lawful s.restartAll := queueLaw_nil

end Sys2Proof.NoticeQueue

/-! PROOFS. Every step keeps the law of the notice queue (O5). -/
namespace Sys2Proof.NoticeQueue
open Sys2Proof.Machine

/-- A command that is not a request, one by one in the order of the opcode table. -/
theorem exec_lawful_of_event {c : Instr} {s : State} (h : Lawful s) (hc : requestOf c = none) :
    ∃ t, exec c s = .next t ∧ Lawful t := by
  cases c <;> cases hc
  case restartSurvey => exact ⟨_, rfl, lawful_carryRestart h (lawful_restartSurvey h)⟩
  case restartAll => exact ⟨_, rfl, lawful_carryRestart h lawful_restartAll⟩
  case frameError => exact ⟨_, rfl, lawful_linkChars h⟩
  case frameGapTimeout => exact ⟨_, rfl, lawful_linkGap h⟩
  case replySent => exact ⟨_, rfl, h⟩
  case reset => exact ⟨_, rfl, lawful_coldStart⟩
  case powerOn => exact ⟨_, rfl, lawful_coldStart⟩
  case accept => exact ⟨_, rfl, lawful_shelfReply h⟩
  case done => exact ⟨_, rfl, lawful_shelfReply h⟩
  case reject => exact ⟨_, rfl, lawful_shelfReply h⟩
  case loss => exact ⟨_, rfl, lawful_shelfReply h⟩
  case ready => exact ⟨_, rfl, lawful_shelfReply h⟩
  case shelfFrameDiscard => exact ⟨_, rfl, lawful_shelfChars h⟩
  case orderSent => exact ⟨_, rfl, lawful_setShelf h⟩
  case acceptTimerEnd => exact ⟨_, rfl, lawful_shelfTimerEnd h⟩
  case doneTimerEnd => exact ⟨_, rfl, lawful_shelfTimerEnd h⟩
  case overcurrentEvent => exact ⟨_, rfl, lawful_overcurrent h⟩
  case settingSettleEnd => exact ⟨_, rfl, lawful_settingSettles h⟩
  case retryDelayEnd => exact ⟨_, rfl, lawful_retryBegins h⟩
  case retrySettleEnd => exact ⟨_, rfl, lawful_retrySettles h⟩
  case faultCountClear => exact ⟨_, rfl, lawful_faultsCleared h⟩
  case tuneStart => exact ⟨_, rfl, lawful_tuneStarts h⟩
  case settleEnd => exact ⟨_, rfl, lawful_settles h⟩
  case acquisition => exact ⟨_, rfl, lawful_acquires h⟩
  case lockTimeout => exact ⟨_, rfl, lawful_lockTimesOut h⟩
  case blockEnd => exact ⟨_, rfl, lawful_blockEnds h⟩
  case announcementSection => exact ⟨_, rfl, lawful_sectionArrives h⟩
  case contentTimeout => exact ⟨_, rfl, lawful_contentTimesOut h⟩
  case earliestDetach => exact ⟨_, rfl, lawful_detachPasses h⟩
  case recoveryEnd => exact ⟨_, rfl, lawful_recovers h⟩
  case scoredResult => exact ⟨_, rfl, lawful_scoreTakes h fun _ => lawful_applyScored h⟩
  case noLockMiss => exact ⟨_, rfl, lawful_scoreTakes h fun _ => lawful_applyMiss h⟩
  case levelResult => exact ⟨_, rfl, lawful_scoreTakes h fun _ => lawful_applyLevel h⟩
  case contentResult => exact ⟨_, rfl, lawful_registryTakes h⟩
  case staleTimerEnd => exact ⟨_, rfl, lawful_staleEnds h⟩
  case tickBoundary => exact ⟨_, rfl, lawful_tickEnds h⟩
  case restEnd => exact ⟨_, rfl, lawful_restEnds h⟩
  case holdDownEnd => exact ⟨_, rfl, lawful_holdDownPasses h⟩
  case barEnd => exact ⟨_, rfl, lawful_barPasses h⟩

theorem exec_lawful {c : Instr} {s t : State} (h : Lawful s) (hs : exec c s = .next t) : Lawful t := by
  have kept : ∃ u, exec c s = .next u ∧ Lawful u := by
    cases hc : requestOf c with
    | some r => exact ⟨_, Lines.exec_of_requestOf s hc, lawful_request h⟩
    | none => exact exec_lawful_of_event h hc
  obtain ⟨u, next, lawful⟩ := kept
  rw [next] at hs
  cases hs
  exact lawful

/-- Settles O5: the command at the front of the queue, the module's own event that is due, or a millisecond. -/
theorem noticeQueueLawKept : Obligations.NoticeQueueLawKept := by
  unfold Obligations.NoticeQueueLawKept
  intro s t h hs
  rw [noticesOk_iff] at h ⊢
  unfold step at hs
  split at hs
  · rename_i c rest _
    exact exec_lawful (s := { s with pending := rest }) h hs
  · unfold State.idle at hs
    split at hs
    · exact exec_lawful h hs
    · cases hs; exact h

end Sys2Proof.NoticeQueue

/-! PROOFS. Posting an event: summary, mask, place, overflow and ATTN (O60). -/
namespace Sys2Proof.NoticeQueue
open Sys2Proof.Machine

section Posting
variable {s : State} {k : NoticeKind} (o : Nat) (d : List Byte)

theorem post_masked (h : s.masks &&& kindBit k ≠ 0) : s.post k o d = { s with summary := withKind s.summary k } :=
  if_pos (decide_eq_true h)

theorem post_unmasked (h : s.masks &&& kindBit k = 0) :
    s.post k o d = ({ s with summary := withKind s.summary k } : State).placeNotice k o d :=
  if_neg fun e => absurd h (of_decide_eq_true e)

end Posting

theorem routineCount_eq (s : State) :
    s.routineCount = (s.notices.filter fun m => decide (m.kind.urgency = .routine)).length := by
  simp only [State.routineCount, countWhere, not_urgent_eq]

/-- A notice that an event may join, as the event leaves it. -/
theorem joined_if (k : NoticeKind) (o : Nat) (d : List Byte) (now : Stamp) (m : Notice) :
    (if m.about k o then m.joined now d else m)
      = if m.kind = k ∧ m.object = o then { m with count := min 255 (m.count + 1), stamp := now, detail := d }
        else m := by
  simp only [Notice.about, decide_eq_true_eq, Notice.joined, bump]

theorem attn_iff (s : State) :
    s.attn = true ↔ s.params.watermark ≤ s.notices.length ∨ (∃ m ∈ s.notices, m.kind.urgency = .urgent)
      ∨ s.overflowMarker = true := by
  simp [State.attn, Notice.urgent, or_assoc]

/-- Settles O60: the mask decides first, then the case of R188 that the queue and the kind's urgency give. -/
theorem eventsArePlaced : Obligations.EventsArePlaced := by
  unfold Obligations.EventsArePlaced
  intro s k o d bit u lost e urgents behind routines
  refine ⟨post_masked o d, fun unmasked => ?_, attn_iff s⟩
  have counted : u.routineCount = routines := routineCount_eq s
  have posted : s.post k o d = u.placeNotice k o d := post_unmasked o d unmasked
  rw [posted]
  refine ⟨fun joins => ?_, fun new => ⟨fun hk hr hl => ?_, fun hk full => ?_, fun hk hl => ?_, fun hk hl hr => ?_,
    fun hk hl hu => ?_⟩⟩
  · rw [placeNotice_joins (s := u) d joins]
    simp only [joined_if]; rfl
  · exact placeNotice_routine d new hk (Nat.lt_of_le_of_lt (Nat.le_of_eq counted) hr) hl
  · exact placeNotice_routine_refused d new hk (counted.symm ▸ full)
  · exact placeNotice_urgent d new hk hl
  · exact placeNotice_urgent_displaces d new hk hl hr
  · exact placeNotice_urgent_refused d new hk hl hu

end Sys2Proof.NoticeQueue

/-! PROOFS. NOTICE_MASK (O59). -/
namespace Sys2Proof.NoticeQueue
open Sys2Proof.Machine

/-! ## The set of masked kinds -/

theorem kindBit_ne_zero (k : NoticeKind) : kindBit k ≠ 0 := by
  cases k <;> decide

theorem withKind_and (set : BitVec 32) (k : NoticeKind) : withKind set k &&& kindBit k = kindBit k := by
  ext i hi
  simpa [withKind] using Or.inr

theorem withoutKind_and (set : BitVec 32) (k : NoticeKind) : withoutKind set k &&& kindBit k = 0 := by
  ext i hi
  simp [withoutKind]

/-- Placing an event neither reads nor writes the raw event summary. -/
theorem placeNotice_withSummary (s : State) (x : BitVec 32) (k : NoticeKind) (o : Nat) (d : List Byte) :
    ({ s with summary := x } : State).placeNotice k o d = { s.placeNotice k o d with summary := x } := by
  have count : ({ s with summary := x } : State).routineCount = s.routineCount := rfl
  unfold State.placeNotice
  simp only [count]
  split
  · rfl
  · split
    · split <;> rfl
    · split
      · rfl
      · split <;> rfl

/-! ## The request -/

theorem noticeKind_ofCode_code (k : NoticeKind) : NoticeKind.ofCode (byteOf k.code).toNat = some k := by
  cases k <;> rfl

theorem noticeKind_ofCode_eq_none {n : Nat} (h : n = 0 ∨ 19 < n) : NoticeKind.ofCode n = none := by
  match n, h with
  | 0, _ => rfl
  | _ + 20, _ => rfl

theorem exec_noticeMask {s : State} {tag c w : Byte} (ht : s.takes = true) :
    exec (.noticeMask tag [c, w]) s
      = .next ((handleNoticeMask [c, w] s.hunts).2.owe 0xE1 tag (handleNoticeMask [c, w] s.hunts).1) :=
  congrArg Host.Outcome.next (State.request_taken ht (by simp) rfl)

theorem handleNoticeMask_kind_range {c : Byte} (w : Byte) (s : State) (h : c = 0 ∨ 19 < c.toNat) :
    handleNoticeMask [c, w] s = (⟨.outOfRange, [1]⟩, s) := by
  have none : NoticeKind.ofCode c.toNat = none := noticeKind_ofCode_eq_none (h.imp (congrArg BitVec.toNat) id)
  simp only [handleNoticeMask, checkNoticeMask, none]; rfl

theorem handleNoticeMask_flag_range (k : NoticeKind) {w : Byte} (s : State) (h : 1 < w.toNat) :
    handleNoticeMask [byteOf k.code, w] s = (⟨.outOfRange, [2]⟩, s) := by
  simp only [handleNoticeMask, checkNoticeMask, noticeKind_ofCode_code, ReceivePaths.flag?_eq_none h]; rfl

theorem handleNoticeMask_inRange (k : NoticeKind) (masked : Bool) (s : State) :
    handleNoticeMask [byteOf k.code, flagByte masked] s = s.maskNotice k masked := by
  simp only [handleNoticeMask, checkNoticeMask, noticeKind_ofCode_code, ReceivePaths.flag?_flagByte]; rfl

/-- Settles O59: the two settings of the flag, the two fields out of range, then what the new mask does to an event. -/
theorem noticeMaskSetsMask : Obligations.NoticeMaskSetsMask := by
  unfold Obligations.NoticeMaskSetsMask
  intro s tag k w ht masked unmasked
  refine ⟨?_, ?_, fun c hc => ?_, fun hw => ?_, fun o d => ?_⟩
  · rw [exec_noticeMask ht, show (1 : Byte) = flagByte true from rfl, handleNoticeMask_inRange]; rfl
  · rw [exec_noticeMask ht, show (0 : Byte) = flagByte false from rfl, handleNoticeMask_inRange]; rfl
  · rw [exec_noticeMask ht, handleNoticeMask_kind_range w s.hunts hc]
  · rw [exec_noticeMask ht, handleNoticeMask_flag_range k s.hunts hw]
  · have isMasked : masked.masks &&& kindBit k ≠ 0 := by
      rw [show masked.masks &&& kindBit k = kindBit k from withKind_and s.masks k]
      exact kindBit_ne_zero k
    have isUnmasked : unmasked.masks &&& kindBit k = 0 := withoutKind_and s.masks k
    rw [post_masked o d isMasked, post_unmasked o d isUnmasked, placeNotice_withSummary]
    exact ⟨rfl, rfl, rfl⟩

end Sys2Proof.NoticeQueue

/-! PROOFS. NOTICE_FETCH and the notice record (O58). -/
namespace Sys2Proof.NoticeQueue
open Sys2Proof.Machine

/-! ## The request -/

theorem exec_noticeFetch {s : State} {tag n : Byte} (ht : s.takes = true) :
    exec (.noticeFetch tag [n]) s
      = .next ((handleNoticeFetch [n] s.hunts).2.owe 0xE0 tag (handleNoticeFetch [n] s.hunts).1) :=
  congrArg Host.Outcome.next (State.request_taken ht (by simp) rfl)

theorem handleNoticeFetch_range {n : Byte} (s : State) (h : n = 0 ∨ 16 < n.toNat) :
    handleNoticeFetch [n] s = (⟨.outOfRange, [1]⟩, s) := by
  have outside : between? 1 16 n.toNat = none := by
    rcases h with rfl | h
    · rfl
    · simp [between?, h]
  simp only [handleNoticeFetch, checkNoticeFetch, outside]; rfl

theorem handleNoticeFetch_inRange {n : Byte} (s : State) (h1 : 1 ≤ n.toNat) (h16 : n.toNat ≤ 16) :
    handleNoticeFetch [n] s = s.fetchNotices n.toNat := by
  have inside : between? 1 16 n.toNat = some n.toNat := by simp [between?, h1, h16]
  simp only [handleNoticeFetch, checkNoticeFetch, inside]; rfl

theorem fetchNotices_plain {s : State} {n : Nat} (h : s.overflowMarker = false ∨ n ≤ s.notices.length) :
    s.fetchNotices n
      = (⟨.ok, byteOf (s.notices.take n).length :: (s.notices.take n).flatMap Notice.bytes⟩,
          { s with notices := s.notices.drop n }) := by
  have plain : ¬ (s.overflowMarker = true ∧ (s.notices.take n).length < n) := by
    rintro ⟨marker, short⟩
    rw [List.length_take] at short
    rcases h with h | h
    · simp [h] at marker
    · omega
  exact if_neg plain

/-- The queue is taken whole, and the NOTICE_OVERFLOW record follows it (R189). -/
theorem fetchNotices_overflow {s : State} {n : Nat} (hm : s.overflowMarker = true) (hn : s.notices.length < n) :
    s.fetchNotices n
      = (⟨.ok, byteOf (s.notices.length + 1) :: s.notices.flatMap Notice.bytes
            ++ [20, 1, 0, 0, 1] ++ le32 s.overflowTime.toNat ++ 1 :: byteOf s.overflowCount :: List.replicate 15 0⟩,
          { s with notices := [], overflowCount := 0, overflowMarker := false }) := by
  have taken : s.notices.take n = s.notices := List.take_of_length_le (Nat.le_of_lt hn)
  have left : s.notices.drop n = [] := List.drop_of_length_le (Nat.le_of_lt hn)
  unfold State.fetchNotices
  simp only [taken, left, hm, hn, and_self, if_true]
  simp [State.overflowRecord, noticeBytes, overflowCode, stampBytes, padTo, Answer.ok, Urgency.code, le16, byteOf]

/-! ## The order of the queue -/

/-- A queue that keeps the law is its urgent notices, and behind them its routine ones. -/
theorem eq_urgent_append_routine {q : List Notice} (h : q.Pairwise fun m n => n.urgent = true → m.urgent = true) :
    q = q.filter Notice.urgent ++ q.filter fun m => !m.urgent := by
  induction q with
  | nil => rfl
  | cons n q ih =>
    obtain ⟨first, rest⟩ := List.pairwise_cons.1 h
    cases hn : n.urgent with
    | true => simpa [hn] using ih rest
    | false =>
      have routine : ∀ m ∈ q, m.urgent = false := by simpa [hn] using first
      rw [List.filter_eq_nil_iff.2 (by simpa [hn] using routine), List.filter_eq_self.2 (by simpa [hn] using routine)]
      rfl

/-! ## The notice record -/

theorem notice_bytes_length {m : Notice} (h : m.detail.length ≤ 16) : m.bytes.length = 26 := by
  simp [Notice.bytes, noticeBytes, stampBytes, padTo]
  omega

/-- The notice kinds in the order of Table 13-9. -/
def noticeKinds : List NoticeKind :=
  [.slotFailover, .slotSeeking, .slotFault, .shelfOffline, .feedFault, .feedOff, .listMark, .listDone,
    .carrierChanged, .carrierLost, .serviceFound, .candidateOverflow, .tableFull, .recheckDropped, .slotSwitched,
    .routeLate, .shelfReady, .probeResult, .surveyState]

theorem noticeKinds_place (k : NoticeKind) :
    ∃ i, noticeKinds[i]? = some k ∧ k.code = i + 1 ∧ k.urgency.code = if i < 6 then 0 else 1 := by
  refine ⟨k.code - 1, ?_⟩
  cases k <;> exact ⟨rfl, rfl, rfl⟩

theorem padTo_length {n : Nat} {l : List Byte} (h : l.length ≤ n) : (padTo n l).length = n := by
  simp [padTo]; omega

/-- Settles O58: the range of the count, the two replies of a fetch, the order of the queue, and the record. -/
theorem noticeFetchTakesNotices : Obligations.NoticeFetchTakesNotices := by
  unfold Obligations.NoticeFetchTakesNotices
  refine ⟨fun s tag n ht => ?_, fun m hd => ?_⟩
  · refine ⟨fun hn => ?_, fun h1 h16 => ⟨fun hp => ?_, fun hm hn => ?_⟩, fun h => ?_⟩
    · rw [exec_noticeFetch ht, handleNoticeFetch_range s.hunts hn]
    · rw [exec_noticeFetch ht, handleNoticeFetch_inRange s.hunts h1 h16, fetchNotices_plain (s := s.hunts) hp]; rfl
    · rw [exec_noticeFetch ht, handleNoticeFetch_inRange s.hunts h1 h16, fetchNotices_overflow (s := s.hunts) hm hn]; rfl
    · simp only [← not_urgent_eq]
      exact eq_urgent_append_routine ((noticesOk_iff s).1 h).urgentFirst
  · obtain ⟨i, place, code, urgency⟩ := noticeKinds_place m.kind
    refine ⟨notice_bytes_length hd, ⟨i, place, ?_⟩, rfl, rfl, rfl, rfl, ?_⟩
    · change [byteOf m.kind.code, byteOf m.kind.urgency.code] = _
      rw [code, urgency]
      split <;> rfl
    · exact List.take_of_length_le (Nat.le_of_eq (padTo_length hd))

end Sys2Proof.NoticeQueue

/-! PROOFS. A frame behind noise, its layout, and its check value bit by bit (O10). -/
namespace Sys2Proof.Lines
open Sys2Proof.Machine

/-! ## Noise (R179) -/

theorem passes_append {now : Stamp} {x y z : FrameInput} {l m : List LineChar} (hl : Passes now x l y)
    (hm : Passes now y m z) : Passes now x (l ++ m) z := by
  induction l generalizing x with
  | nil => exact hl ▸ hm
  | cons c l ih => exact ⟨hl.1, ih hl.2⟩

/-- A hunting receiver passes over the bytes that start no frame. -/
theorem passes_noise {now : Stamp} {l : List Byte} (h : ∀ b ∈ l, b ≠ 0xA5) :
    Passes now .hunting (goodChars l) .hunting := by
  induction l with
  | nil => rfl
  | cons b l ih =>
    have passed : FrameInput.hunting.char now ⟨b, true⟩ = (.hunting, .none) := by
      simp only [FrameInput.char, FrameInput.take, if_true, if_neg (h b List.mem_cons_self)]
    refine ⟨congrArg Prod.snd passed, ?_⟩
    change Passes now (FrameInput.hunting.char now ⟨b, true⟩).1 (goodChars l) .hunting
    rw [passed]
    exact ih fun c hc => h c (List.mem_cons_of_mem b hc)

/-- What a run reports does not depend on the noise before it. -/
theorem Reports.behind_noise {now : Stamp} {noise l : List Byte} {e : FrameEvent} (hn : ∀ b ∈ noise, b ≠ 0xA5)
    (h : Reports now (goodChars l) e) : Reports now (goodChars (noise ++ l)) e := by
  obtain ⟨init, c, y, whole, passes, last⟩ := h
  refine ⟨goodChars noise ++ init, c, y, ?_, passes_append (passes_noise hn) passes, last⟩
  rw [List.append_assoc, ← whole]
  exact List.map_append

/-! ## The check value (R180) -/

/-- The register of the check value takes one bit of the line. -/
def takeBit (r : BitVec 16) (bit : Bool) : BitVec 16 :=
  if r.msb = bit then r <<< 1 else (r <<< 1) ^^^ BitVec.ofNat 16 (2 ^ 12 + 2 ^ 5 + 1)

/-- The bits of a byte in line order. -/
def lineBits (b : Byte) : List Bool := [7, 6, 5, 4, 3, 2, 1, 0].map fun k => b.getLsbD k

/-- A shift of the register with bits already brought in takes the highest of them, and keeps the others in place. -/
theorem crcShift_xor (r y : BitVec 16) : crcShift (r ^^^ y) = takeBit r y.msb ^^^ (y <<< 1) := by
  have generator : BitVec.ofNat 16 (2 ^ 12 + 2 ^ 5 + 1) = 0x1021 := rfl
  unfold crcShift takeBit
  rw [BitVec.msb_xor, BitVec.shiftLeft_xor_distrib, generator]
  cases r.msb <;> cases y.msb <;> simp [BitVec.xor_assoc, BitVec.xor_comm (y <<< 1)]

/-- The register after a byte is the register after its eight bits. -/
theorem crcByte_eq (r : BitVec 16) (b : Byte) : crcByte r b = (lineBits b).foldl takeBit r := by
  have top {n : Nat} (h8 : 8 ≤ n) (h16 : n < 16) : (b.zeroExtend 16 <<< n).msb = b.getLsbD (15 - n) := by
    rw [BitVec.msb_eq_getLsbD_last, BitVec.getLsbD_shiftLeft]
    simp [show ¬ 15 < n by omega, show 15 - n < 16 by omega]
  have out : b.zeroExtend 16 <<< 16 = 0#16 := BitVec.shiftLeft_eq_zero (Nat.le_refl 16)
  simp only [crcByte, crcShift_xor, ← BitVec.shiftLeft_add, Nat.reduceAdd, out, BitVec.xor_zero]
  simp (disch := decide) only [top]
  rfl

theorem checkValue_eq (covered : List Byte) : checkValue covered = (covered.flatMap lineBits).foldl takeBit 0xFFFF := by
  rw [List.foldl_flatMap]
  exact congrArg (fun f => covered.foldl f 0xFFFF) (funext fun r => funext fun b => crcByte_eq r b)

/-- Settles O10: the receiver passes over the noise and reports the frame; the layout and the register are those of the
model. -/
theorem frameRoundTrip : Obligations.FrameRoundTrip := by
  unfold Obligations.FrameRoundTrip
  refine ⟨fun noise kind tag body s hi hn hb => ?_, fun kind tag body => rfl, fun covered => ?_⟩
  · have frame := (reports_good_frame s.clock kind tag hb).behind_noise hn
    exact congrArg Host.Outcome.next (linkChars_of_reports hi frame)
  · exact congrArg (fun v : BitVec 16 => le16 v.toNat) (checkValue_eq covered)

end Sys2Proof.Lines
